-- ==== Sys2Proof/Word.lean ====
section
/-! DEFINITION. The two widths of the machine (00_scope R7, R10): bytes and 16-bit words. -/

namespace Sys2Proof

/-- An 8-bit value, `u8` of 00_scope R10. -/
abbrev Byte := BitVec 8

/-- A 16-bit value, `u16` of 00_scope R10: register pairs, SP, PC and bus addresses. -/
abbrev Word := BitVec 16

end Sys2Proof
end

