-- ==== Sys2Proof/Machine/Bits.lean ====
section
/-! DEFINITION. Bit-field, byte-order and sign-extension helpers (00_scope R9, R10; 20_memory R62). -/

namespace Sys2Proof

/-- `v[15:8]`. -/
def hiByte (v : Word) : Byte := v.extractLsb' 8 8

/-- `v[7:0]`. -/
def loByte (v : Word) : Byte := v.extractLsb' 0 8

/-- `hi ++ lo` (00_scope R10). -/
def join (hi lo : Byte) : Word := hi ++ lo

/-- `sext_16(e)` (00_scope R10): the signed reading of a byte, as a word. -/
def sext16 (e : Byte) : Word := e.signExtend 16

/-- The address `0xFF00 + n` of the high page (40_load R150). -/
def highPage (n : Byte) : Word := 0xFF00#16 + n.setWidth 16

/-- Bit `b` of a byte, counted from the least significant (00_scope R9). -/
def bitOf (v : Byte) (b : Nat) : Bool := v.getLsbD b

/-- The bytes of a 24-bit number, least significant first. -/
def bytesLE (w : Nat) : List Byte :=
  [BitVec.ofNat 8 w, BitVec.ofNat 8 (w / 256), BitVec.ofNat 8 (w / 65536)]

end Sys2Proof
end

