-- ==== Sys2Proof/Syntax.lean ====
section
/-! DEFINITION. The instructions: one constructor per row of spec/opcode_table.json (30_encoding R132, R133),
in the table's order, and the operand names of R125 to R129. The prefix byte 0xCB is no instruction
(45_system R315), the eleven illegal bytes are no row (R135). -/

namespace Sys2Proof

/-- The 8-bit registers of the `r` field (30_encoding R125). F is not among them. -/
inductive Reg8 where
  | b | c | d | e | h | l | a
  deriving DecidableEq, Repr

/-- The operand of the `r` field: a register, or for value 6 the byte at address HL (30_encoding R125). -/
inductive Loc8 where
  | reg (r : Reg8)
  | memHL
  deriving DecidableEq, Repr

/-- The 16-bit operands: the dd field is bc, de, hl, sp; the qq field is bc, de, hl, af (30_encoding R127). -/
inductive Pair where
  | bc | de | hl | sp | af
  deriving DecidableEq, Repr

/-- The condition field (30_encoding R126). -/
inductive Cond where
  | nz | z | nc | c
  deriving DecidableEq, Repr

/-- The ALU operation field (30_encoding R128). -/
inductive AluOp where
  | add | adc | sub | sbc | and | xor | or | cp
  deriving DecidableEq, Repr

/-- The rotate and shift operation field (30_encoding R129, 43 R250). -/
inductive ShiftOp where
  | rlc | rrc | rl | rr | sla | sra | swap | srl
  deriving DecidableEq, Repr

/-- The instructions. An operand byte is `n` (unsigned) or `e` (signed displacement), a 16-bit operand `nn`
(30_encoding R124). -/
inductive Instr where
  /-- `NOP`, 0x00, R310. -/
  | nop
  /-- `LD BC,nn`, 0x01, R171. -/
  | ldBCNN (nn : Word)
  /-- `LD (BC),A`, 0x02, R158. -/
  | ldMemBCA
  /-- `INC BC`, 0x03, R232. -/
  | incBC
  /-- `INC B`, 0x04, R216. -/
  | incB
  /-- `DEC B`, 0x05, R218. -/
  | decB
  /-- `LD B,n`, 0x06, R152. -/
  | ldBN (n : Byte)
  /-- `RLCA`, 0x07, R251. -/
  | rlca
  /-- `LD (nn),SP`, 0x08, R170. -/
  | ldMemNNSP (nn : Word)
  /-- `ADD HL,BC`, 0x09, R231. -/
  | addHLBC
  /-- `LD A,(BC)`, 0x0A, R156. -/
  | ldAMemBC
  /-- `DEC BC`, 0x0B, R233. -/
  | decBC
  /-- `INC C`, 0x0C, R216. -/
  | incC
  /-- `DEC C`, 0x0D, R218. -/
  | decC
  /-- `LD C,n`, 0x0E, R152. -/
  | ldCN (n : Byte)
  /-- `RRCA`, 0x0F, R252. -/
  | rrca
  /-- `STOP`, 0x10, R312. -/
  | stop (n : Byte)
  /-- `LD DE,nn`, 0x11, R171. -/
  | ldDENN (nn : Word)
  /-- `LD (DE),A`, 0x12, R159. -/
  | ldMemDEA
  /-- `INC DE`, 0x13, R232. -/
  | incDE
  /-- `INC D`, 0x14, R216. -/
  | incD
  /-- `DEC D`, 0x15, R218. -/
  | decD
  /-- `LD D,n`, 0x16, R152. -/
  | ldDN (n : Byte)
  /-- `RLA`, 0x17, R253. -/
  | rla
  /-- `JR e`, 0x18, R284. -/
  | jrE8 (e : Byte)
  /-- `ADD HL,DE`, 0x19, R231. -/
  | addHLDE
  /-- `LD A,(DE)`, 0x1A, R157. -/
  | ldAMemDE
  /-- `DEC DE`, 0x1B, R233. -/
  | decDE
  /-- `INC E`, 0x1C, R216. -/
  | incE
  /-- `DEC E`, 0x1D, R218. -/
  | decE
  /-- `LD E,n`, 0x1E, R152. -/
  | ldEN (n : Byte)
  /-- `RRA`, 0x1F, R254. -/
  | rra
  /-- `JR NZ,e`, 0x20, R285. -/
  | jrNZE8 (e : Byte)
  /-- `LD HL,nn`, 0x21, R171. -/
  | ldHLNN (nn : Word)
  /-- `LD (HL+),A`, 0x22, R169. -/
  | ldMemHLIncA
  /-- `INC HL`, 0x23, R232. -/
  | incHL
  /-- `INC H`, 0x24, R216. -/
  | incH
  /-- `DEC H`, 0x25, R218. -/
  | decH
  /-- `LD H,n`, 0x26, R152. -/
  | ldHN (n : Byte)
  /-- `DAA`, 0x27, R220. -/
  | daa
  /-- `JR Z,e`, 0x28, R285. -/
  | jrZE8 (e : Byte)
  /-- `ADD HL,HL`, 0x29, R231. -/
  | addHLHL
  /-- `LD A,(HL+)`, 0x2A, R168. -/
  | ldAMemHLInc
  /-- `DEC HL`, 0x2B, R233. -/
  | decHL
  /-- `INC L`, 0x2C, R216. -/
  | incL
  /-- `DEC L`, 0x2D, R218. -/
  | decL
  /-- `LD L,n`, 0x2E, R152. -/
  | ldLN (n : Byte)
  /-- `CPL`, 0x2F, R221. -/
  | cpl
  /-- `JR NC,e`, 0x30, R285. -/
  | jrNCE8 (e : Byte)
  /-- `LD SP,nn`, 0x31, R171. -/
  | ldSPNN (nn : Word)
  /-- `LD (HL-),A`, 0x32, R167. -/
  | ldMemHLDecA
  /-- `INC SP`, 0x33, R232. -/
  | incSP
  /-- `INC (HL)`, 0x34, R217. -/
  | incMemHL
  /-- `DEC (HL)`, 0x35, R219. -/
  | decMemHL
  /-- `LD (HL),n`, 0x36, R155. -/
  | ldMemHLN (n : Byte)
  /-- `SCF`, 0x37, R222. -/
  | scf
  /-- `JR C,e`, 0x38, R285. -/
  | jrCE8 (e : Byte)
  /-- `ADD HL,SP`, 0x39, R231. -/
  | addHLSP
  /-- `LD A,(HL-)`, 0x3A, R166. -/
  | ldAMemHLDec
  /-- `DEC SP`, 0x3B, R233. -/
  | decSP
  /-- `INC A`, 0x3C, R216. -/
  | incA
  /-- `DEC A`, 0x3D, R218. -/
  | decA
  /-- `LD A,n`, 0x3E, R152. -/
  | ldAN (n : Byte)
  /-- `CCF`, 0x3F, R223. -/
  | ccf
  /-- `LD B,B`, 0x40, R151. -/
  | ldBB
  /-- `LD B,C`, 0x41, R151. -/
  | ldBC
  /-- `LD B,D`, 0x42, R151. -/
  | ldBD
  /-- `LD B,E`, 0x43, R151. -/
  | ldBE
  /-- `LD B,H`, 0x44, R151. -/
  | ldBH
  /-- `LD B,L`, 0x45, R151. -/
  | ldBL
  /-- `LD B,(HL)`, 0x46, R153. -/
  | ldBMemHL
  /-- `LD B,A`, 0x47, R151. -/
  | ldBA
  /-- `LD C,B`, 0x48, R151. -/
  | ldCB
  /-- `LD C,C`, 0x49, R151. -/
  | ldCC
  /-- `LD C,D`, 0x4A, R151. -/
  | ldCD
  /-- `LD C,E`, 0x4B, R151. -/
  | ldCE
  /-- `LD C,H`, 0x4C, R151. -/
  | ldCH
  /-- `LD C,L`, 0x4D, R151. -/
  | ldCL
  /-- `LD C,(HL)`, 0x4E, R153. -/
  | ldCMemHL
  /-- `LD C,A`, 0x4F, R151. -/
  | ldCA
  /-- `LD D,B`, 0x50, R151. -/
  | ldDB
  /-- `LD D,C`, 0x51, R151. -/
  | ldDC
  /-- `LD D,D`, 0x52, R151. -/
  | ldDD
  /-- `LD D,E`, 0x53, R151. -/
  | ldDE
  /-- `LD D,H`, 0x54, R151. -/
  | ldDH
  /-- `LD D,L`, 0x55, R151. -/
  | ldDL
  /-- `LD D,(HL)`, 0x56, R153. -/
  | ldDMemHL
  /-- `LD D,A`, 0x57, R151. -/
  | ldDA
  /-- `LD E,B`, 0x58, R151. -/
  | ldEB
  /-- `LD E,C`, 0x59, R151. -/
  | ldEC
  /-- `LD E,D`, 0x5A, R151. -/
  | ldED
  /-- `LD E,E`, 0x5B, R151. -/
  | ldEE
  /-- `LD E,H`, 0x5C, R151. -/
  | ldEH
  /-- `LD E,L`, 0x5D, R151. -/
  | ldEL
  /-- `LD E,(HL)`, 0x5E, R153. -/
  | ldEMemHL
  /-- `LD E,A`, 0x5F, R151. -/
  | ldEA
  /-- `LD H,B`, 0x60, R151. -/
  | ldHB
  /-- `LD H,C`, 0x61, R151. -/
  | ldHC
  /-- `LD H,D`, 0x62, R151. -/
  | ldHD
  /-- `LD H,E`, 0x63, R151. -/
  | ldHE
  /-- `LD H,H`, 0x64, R151. -/
  | ldHH
  /-- `LD H,L`, 0x65, R151. -/
  | ldHL
  /-- `LD H,(HL)`, 0x66, R153. -/
  | ldHMemHL
  /-- `LD H,A`, 0x67, R151. -/
  | ldHA
  /-- `LD L,B`, 0x68, R151. -/
  | ldLB
  /-- `LD L,C`, 0x69, R151. -/
  | ldLC
  /-- `LD L,D`, 0x6A, R151. -/
  | ldLD
  /-- `LD L,E`, 0x6B, R151. -/
  | ldLE
  /-- `LD L,H`, 0x6C, R151. -/
  | ldLH
  /-- `LD L,L`, 0x6D, R151. -/
  | ldLL
  /-- `LD L,(HL)`, 0x6E, R153. -/
  | ldLMemHL
  /-- `LD L,A`, 0x6F, R151. -/
  | ldLA
  /-- `LD (HL),B`, 0x70, R154. -/
  | ldMemHLB
  /-- `LD (HL),C`, 0x71, R154. -/
  | ldMemHLC
  /-- `LD (HL),D`, 0x72, R154. -/
  | ldMemHLD
  /-- `LD (HL),E`, 0x73, R154. -/
  | ldMemHLE
  /-- `LD (HL),H`, 0x74, R154. -/
  | ldMemHLH
  /-- `LD (HL),L`, 0x75, R154. -/
  | ldMemHLL
  /-- `HALT`, 0x76, R311. -/
  | halt
  /-- `LD (HL),A`, 0x77, R154. -/
  | ldMemHLA
  /-- `LD A,B`, 0x78, R151. -/
  | ldAB
  /-- `LD A,C`, 0x79, R151. -/
  | ldAC
  /-- `LD A,D`, 0x7A, R151. -/
  | ldAD
  /-- `LD A,E`, 0x7B, R151. -/
  | ldAE
  /-- `LD A,H`, 0x7C, R151. -/
  | ldAH
  /-- `LD A,L`, 0x7D, R151. -/
  | ldAL
  /-- `LD A,(HL)`, 0x7E, R153. -/
  | ldAMemHL
  /-- `LD A,A`, 0x7F, R151. -/
  | ldAA
  /-- `ADD A,B`, 0x80, R192. -/
  | addAB
  /-- `ADD A,C`, 0x81, R192. -/
  | addAC
  /-- `ADD A,D`, 0x82, R192. -/
  | addAD
  /-- `ADD A,E`, 0x83, R192. -/
  | addAE
  /-- `ADD A,H`, 0x84, R192. -/
  | addAH
  /-- `ADD A,L`, 0x85, R192. -/
  | addAL
  /-- `ADD A,(HL)`, 0x86, R193. -/
  | addAMemHL
  /-- `ADD A,A`, 0x87, R192. -/
  | addAA
  /-- `ADC A,B`, 0x88, R195. -/
  | adcAB
  /-- `ADC A,C`, 0x89, R195. -/
  | adcAC
  /-- `ADC A,D`, 0x8A, R195. -/
  | adcAD
  /-- `ADC A,E`, 0x8B, R195. -/
  | adcAE
  /-- `ADC A,H`, 0x8C, R195. -/
  | adcAH
  /-- `ADC A,L`, 0x8D, R195. -/
  | adcAL
  /-- `ADC A,(HL)`, 0x8E, R196. -/
  | adcAMemHL
  /-- `ADC A,A`, 0x8F, R195. -/
  | adcAA
  /-- `SUB B`, 0x90, R198. -/
  | subB
  /-- `SUB C`, 0x91, R198. -/
  | subC
  /-- `SUB D`, 0x92, R198. -/
  | subD
  /-- `SUB E`, 0x93, R198. -/
  | subE
  /-- `SUB H`, 0x94, R198. -/
  | subH
  /-- `SUB L`, 0x95, R198. -/
  | subL
  /-- `SUB (HL)`, 0x96, R199. -/
  | subMemHL
  /-- `SUB A`, 0x97, R198. -/
  | subA
  /-- `SBC A,B`, 0x98, R201. -/
  | sbcAB
  /-- `SBC A,C`, 0x99, R201. -/
  | sbcAC
  /-- `SBC A,D`, 0x9A, R201. -/
  | sbcAD
  /-- `SBC A,E`, 0x9B, R201. -/
  | sbcAE
  /-- `SBC A,H`, 0x9C, R201. -/
  | sbcAH
  /-- `SBC A,L`, 0x9D, R201. -/
  | sbcAL
  /-- `SBC A,(HL)`, 0x9E, R202. -/
  | sbcAMemHL
  /-- `SBC A,A`, 0x9F, R201. -/
  | sbcAA
  /-- `AND B`, 0xA0, R204. -/
  | andB
  /-- `AND C`, 0xA1, R204. -/
  | andC
  /-- `AND D`, 0xA2, R204. -/
  | andD
  /-- `AND E`, 0xA3, R204. -/
  | andE
  /-- `AND H`, 0xA4, R204. -/
  | andH
  /-- `AND L`, 0xA5, R204. -/
  | andL
  /-- `AND (HL)`, 0xA6, R205. -/
  | andMemHL
  /-- `AND A`, 0xA7, R204. -/
  | andA
  /-- `XOR B`, 0xA8, R207. -/
  | xorB
  /-- `XOR C`, 0xA9, R207. -/
  | xorC
  /-- `XOR D`, 0xAA, R207. -/
  | xorD
  /-- `XOR E`, 0xAB, R207. -/
  | xorE
  /-- `XOR H`, 0xAC, R207. -/
  | xorH
  /-- `XOR L`, 0xAD, R207. -/
  | xorL
  /-- `XOR (HL)`, 0xAE, R208. -/
  | xorMemHL
  /-- `XOR A`, 0xAF, R207. -/
  | xorA
  /-- `OR B`, 0xB0, R210. -/
  | orB
  /-- `OR C`, 0xB1, R210. -/
  | orC
  /-- `OR D`, 0xB2, R210. -/
  | orD
  /-- `OR E`, 0xB3, R210. -/
  | orE
  /-- `OR H`, 0xB4, R210. -/
  | orH
  /-- `OR L`, 0xB5, R210. -/
  | orL
  /-- `OR (HL)`, 0xB6, R211. -/
  | orMemHL
  /-- `OR A`, 0xB7, R210. -/
  | orA
  /-- `CP B`, 0xB8, R213. -/
  | cpB
  /-- `CP C`, 0xB9, R213. -/
  | cpC
  /-- `CP D`, 0xBA, R213. -/
  | cpD
  /-- `CP E`, 0xBB, R213. -/
  | cpE
  /-- `CP H`, 0xBC, R213. -/
  | cpH
  /-- `CP L`, 0xBD, R213. -/
  | cpL
  /-- `CP (HL)`, 0xBE, R214. -/
  | cpMemHL
  /-- `CP A`, 0xBF, R213. -/
  | cpA
  /-- `RET NZ`, 0xC0, R290. -/
  | retNZ
  /-- `POP BC`, 0xC1, R173. -/
  | popBC
  /-- `JP NZ,nn`, 0xC2, R282. -/
  | jpNZNN (nn : Word)
  /-- `JP nn`, 0xC3, R281. -/
  | jpNN (nn : Word)
  /-- `CALL NZ,nn`, 0xC4, R287. -/
  | callNZNN (nn : Word)
  /-- `PUSH BC`, 0xC5, R172. -/
  | pushBC
  /-- `ADD A,n`, 0xC6, R194. -/
  | addAN (n : Byte)
  /-- `RST 0x00`, 0xC7, R291. -/
  | rst00
  /-- `RET Z`, 0xC8, R290. -/
  | retZ
  /-- `RET`, 0xC9, R288. -/
  | ret
  /-- `JP Z,nn`, 0xCA, R282. -/
  | jpZNN (nn : Word)
  /-- `CALL Z,nn`, 0xCC, R287. -/
  | callZNN (nn : Word)
  /-- `CALL nn`, 0xCD, R286. -/
  | callNN (nn : Word)
  /-- `ADC A,n`, 0xCE, R197. -/
  | adcAN (n : Byte)
  /-- `RST 0x08`, 0xCF, R291. -/
  | rst08
  /-- `RET NC`, 0xD0, R290. -/
  | retNC
  /-- `POP DE`, 0xD1, R173. -/
  | popDE
  /-- `JP NC,nn`, 0xD2, R282. -/
  | jpNCNN (nn : Word)
  /-- `CALL NC,nn`, 0xD4, R287. -/
  | callNCNN (nn : Word)
  /-- `PUSH DE`, 0xD5, R172. -/
  | pushDE
  /-- `SUB n`, 0xD6, R200. -/
  | subN (n : Byte)
  /-- `RST 0x10`, 0xD7, R291. -/
  | rst10
  /-- `RET C`, 0xD8, R290. -/
  | retC
  /-- `RETI`, 0xD9, R289. -/
  | reti
  /-- `JP C,nn`, 0xDA, R282. -/
  | jpCNN (nn : Word)
  /-- `CALL C,nn`, 0xDC, R287. -/
  | callCNN (nn : Word)
  /-- `SBC A,n`, 0xDE, R203. -/
  | sbcAN (n : Byte)
  /-- `RST 0x18`, 0xDF, R291. -/
  | rst18
  /-- `LDH (n),A`, 0xE0, R165. -/
  | ldhMemNA (n : Byte)
  /-- `POP HL`, 0xE1, R173. -/
  | popHL
  /-- `LDH (C),A`, 0xE2, R163. -/
  | ldhMemCA
  /-- `PUSH HL`, 0xE5, R172. -/
  | pushHL
  /-- `AND n`, 0xE6, R206. -/
  | andN (n : Byte)
  /-- `RST 0x20`, 0xE7, R291. -/
  | rst20
  /-- `ADD SP,e`, 0xE8, R234. -/
  | addSPE8 (e : Byte)
  /-- `JP HL`, 0xE9, R283. -/
  | jpHL
  /-- `LD (nn),A`, 0xEA, R161. -/
  | ldMemNNA (nn : Word)
  /-- `XOR n`, 0xEE, R209. -/
  | xorN (n : Byte)
  /-- `RST 0x28`, 0xEF, R291. -/
  | rst28
  /-- `LDH A,(n)`, 0xF0, R164. -/
  | ldhAMemN (n : Byte)
  /-- `POP AF`, 0xF1, R174. -/
  | popAF
  /-- `LDH A,(C)`, 0xF2, R162. -/
  | ldhAMemC
  /-- `DI`, 0xF3, R313. -/
  | di
  /-- `PUSH AF`, 0xF5, R172. -/
  | pushAF
  /-- `OR n`, 0xF6, R212. -/
  | orN (n : Byte)
  /-- `RST 0x30`, 0xF7, R291. -/
  | rst30
  /-- `LD HL,SP+e`, 0xF8, R235. -/
  | ldHLSPE (e : Byte)
  /-- `LD SP,HL`, 0xF9, R175. -/
  | ldSPHL
  /-- `LD A,(nn)`, 0xFA, R160. -/
  | ldAMemNN (nn : Word)
  /-- `EI`, 0xFB, R314. -/
  | ei
  /-- `CP n`, 0xFE, R215. -/
  | cpN (n : Byte)
  /-- `RST 0x38`, 0xFF, R291. -/
  | rst38
  /-- `RLC B`, 0xCB 0x00, R255. -/
  | rlcB
  /-- `RLC C`, 0xCB 0x01, R255. -/
  | rlcC
  /-- `RLC D`, 0xCB 0x02, R255. -/
  | rlcD
  /-- `RLC E`, 0xCB 0x03, R255. -/
  | rlcE
  /-- `RLC H`, 0xCB 0x04, R255. -/
  | rlcH
  /-- `RLC L`, 0xCB 0x05, R255. -/
  | rlcL
  /-- `RLC (HL)`, 0xCB 0x06, R256. -/
  | rlcMemHL
  /-- `RLC A`, 0xCB 0x07, R255. -/
  | rlcA
  /-- `RRC B`, 0xCB 0x08, R257. -/
  | rrcB
  /-- `RRC C`, 0xCB 0x09, R257. -/
  | rrcC
  /-- `RRC D`, 0xCB 0x0A, R257. -/
  | rrcD
  /-- `RRC E`, 0xCB 0x0B, R257. -/
  | rrcE
  /-- `RRC H`, 0xCB 0x0C, R257. -/
  | rrcH
  /-- `RRC L`, 0xCB 0x0D, R257. -/
  | rrcL
  /-- `RRC (HL)`, 0xCB 0x0E, R258. -/
  | rrcMemHL
  /-- `RRC A`, 0xCB 0x0F, R257. -/
  | rrcA
  /-- `RL B`, 0xCB 0x10, R259. -/
  | rlB
  /-- `RL C`, 0xCB 0x11, R259. -/
  | rlC
  /-- `RL D`, 0xCB 0x12, R259. -/
  | rlD
  /-- `RL E`, 0xCB 0x13, R259. -/
  | rlE
  /-- `RL H`, 0xCB 0x14, R259. -/
  | rlH
  /-- `RL L`, 0xCB 0x15, R259. -/
  | rlL
  /-- `RL (HL)`, 0xCB 0x16, R260. -/
  | rlMemHL
  /-- `RL A`, 0xCB 0x17, R259. -/
  | rlA
  /-- `RR B`, 0xCB 0x18, R261. -/
  | rrB
  /-- `RR C`, 0xCB 0x19, R261. -/
  | rrC
  /-- `RR D`, 0xCB 0x1A, R261. -/
  | rrD
  /-- `RR E`, 0xCB 0x1B, R261. -/
  | rrE
  /-- `RR H`, 0xCB 0x1C, R261. -/
  | rrH
  /-- `RR L`, 0xCB 0x1D, R261. -/
  | rrL
  /-- `RR (HL)`, 0xCB 0x1E, R262. -/
  | rrMemHL
  /-- `RR A`, 0xCB 0x1F, R261. -/
  | rrA
  /-- `SLA B`, 0xCB 0x20, R263. -/
  | slaB
  /-- `SLA C`, 0xCB 0x21, R263. -/
  | slaC
  /-- `SLA D`, 0xCB 0x22, R263. -/
  | slaD
  /-- `SLA E`, 0xCB 0x23, R263. -/
  | slaE
  /-- `SLA H`, 0xCB 0x24, R263. -/
  | slaH
  /-- `SLA L`, 0xCB 0x25, R263. -/
  | slaL
  /-- `SLA (HL)`, 0xCB 0x26, R264. -/
  | slaMemHL
  /-- `SLA A`, 0xCB 0x27, R263. -/
  | slaA
  /-- `SRA B`, 0xCB 0x28, R265. -/
  | sraB
  /-- `SRA C`, 0xCB 0x29, R265. -/
  | sraC
  /-- `SRA D`, 0xCB 0x2A, R265. -/
  | sraD
  /-- `SRA E`, 0xCB 0x2B, R265. -/
  | sraE
  /-- `SRA H`, 0xCB 0x2C, R265. -/
  | sraH
  /-- `SRA L`, 0xCB 0x2D, R265. -/
  | sraL
  /-- `SRA (HL)`, 0xCB 0x2E, R266. -/
  | sraMemHL
  /-- `SRA A`, 0xCB 0x2F, R265. -/
  | sraA
  /-- `SWAP B`, 0xCB 0x30, R267. -/
  | swapB
  /-- `SWAP C`, 0xCB 0x31, R267. -/
  | swapC
  /-- `SWAP D`, 0xCB 0x32, R267. -/
  | swapD
  /-- `SWAP E`, 0xCB 0x33, R267. -/
  | swapE
  /-- `SWAP H`, 0xCB 0x34, R267. -/
  | swapH
  /-- `SWAP L`, 0xCB 0x35, R267. -/
  | swapL
  /-- `SWAP (HL)`, 0xCB 0x36, R268. -/
  | swapMemHL
  /-- `SWAP A`, 0xCB 0x37, R267. -/
  | swapA
  /-- `SRL B`, 0xCB 0x38, R269. -/
  | srlB
  /-- `SRL C`, 0xCB 0x39, R269. -/
  | srlC
  /-- `SRL D`, 0xCB 0x3A, R269. -/
  | srlD
  /-- `SRL E`, 0xCB 0x3B, R269. -/
  | srlE
  /-- `SRL H`, 0xCB 0x3C, R269. -/
  | srlH
  /-- `SRL L`, 0xCB 0x3D, R269. -/
  | srlL
  /-- `SRL (HL)`, 0xCB 0x3E, R270. -/
  | srlMemHL
  /-- `SRL A`, 0xCB 0x3F, R269. -/
  | srlA
  /-- `BIT 0,B`, 0xCB 0x40, R271. -/
  | bit0B
  /-- `BIT 0,C`, 0xCB 0x41, R271. -/
  | bit0C
  /-- `BIT 0,D`, 0xCB 0x42, R271. -/
  | bit0D
  /-- `BIT 0,E`, 0xCB 0x43, R271. -/
  | bit0E
  /-- `BIT 0,H`, 0xCB 0x44, R271. -/
  | bit0H
  /-- `BIT 0,L`, 0xCB 0x45, R271. -/
  | bit0L
  /-- `BIT 0,(HL)`, 0xCB 0x46, R272. -/
  | bit0MemHL
  /-- `BIT 0,A`, 0xCB 0x47, R271. -/
  | bit0A
  /-- `BIT 1,B`, 0xCB 0x48, R271. -/
  | bit1B
  /-- `BIT 1,C`, 0xCB 0x49, R271. -/
  | bit1C
  /-- `BIT 1,D`, 0xCB 0x4A, R271. -/
  | bit1D
  /-- `BIT 1,E`, 0xCB 0x4B, R271. -/
  | bit1E
  /-- `BIT 1,H`, 0xCB 0x4C, R271. -/
  | bit1H
  /-- `BIT 1,L`, 0xCB 0x4D, R271. -/
  | bit1L
  /-- `BIT 1,(HL)`, 0xCB 0x4E, R272. -/
  | bit1MemHL
  /-- `BIT 1,A`, 0xCB 0x4F, R271. -/
  | bit1A
  /-- `BIT 2,B`, 0xCB 0x50, R271. -/
  | bit2B
  /-- `BIT 2,C`, 0xCB 0x51, R271. -/
  | bit2C
  /-- `BIT 2,D`, 0xCB 0x52, R271. -/
  | bit2D
  /-- `BIT 2,E`, 0xCB 0x53, R271. -/
  | bit2E
  /-- `BIT 2,H`, 0xCB 0x54, R271. -/
  | bit2H
  /-- `BIT 2,L`, 0xCB 0x55, R271. -/
  | bit2L
  /-- `BIT 2,(HL)`, 0xCB 0x56, R272. -/
  | bit2MemHL
  /-- `BIT 2,A`, 0xCB 0x57, R271. -/
  | bit2A
  /-- `BIT 3,B`, 0xCB 0x58, R271. -/
  | bit3B
  /-- `BIT 3,C`, 0xCB 0x59, R271. -/
  | bit3C
  /-- `BIT 3,D`, 0xCB 0x5A, R271. -/
  | bit3D
  /-- `BIT 3,E`, 0xCB 0x5B, R271. -/
  | bit3E
  /-- `BIT 3,H`, 0xCB 0x5C, R271. -/
  | bit3H
  /-- `BIT 3,L`, 0xCB 0x5D, R271. -/
  | bit3L
  /-- `BIT 3,(HL)`, 0xCB 0x5E, R272. -/
  | bit3MemHL
  /-- `BIT 3,A`, 0xCB 0x5F, R271. -/
  | bit3A
  /-- `BIT 4,B`, 0xCB 0x60, R271. -/
  | bit4B
  /-- `BIT 4,C`, 0xCB 0x61, R271. -/
  | bit4C
  /-- `BIT 4,D`, 0xCB 0x62, R271. -/
  | bit4D
  /-- `BIT 4,E`, 0xCB 0x63, R271. -/
  | bit4E
  /-- `BIT 4,H`, 0xCB 0x64, R271. -/
  | bit4H
  /-- `BIT 4,L`, 0xCB 0x65, R271. -/
  | bit4L
  /-- `BIT 4,(HL)`, 0xCB 0x66, R272. -/
  | bit4MemHL
  /-- `BIT 4,A`, 0xCB 0x67, R271. -/
  | bit4A
  /-- `BIT 5,B`, 0xCB 0x68, R271. -/
  | bit5B
  /-- `BIT 5,C`, 0xCB 0x69, R271. -/
  | bit5C
  /-- `BIT 5,D`, 0xCB 0x6A, R271. -/
  | bit5D
  /-- `BIT 5,E`, 0xCB 0x6B, R271. -/
  | bit5E
  /-- `BIT 5,H`, 0xCB 0x6C, R271. -/
  | bit5H
  /-- `BIT 5,L`, 0xCB 0x6D, R271. -/
  | bit5L
  /-- `BIT 5,(HL)`, 0xCB 0x6E, R272. -/
  | bit5MemHL
  /-- `BIT 5,A`, 0xCB 0x6F, R271. -/
  | bit5A
  /-- `BIT 6,B`, 0xCB 0x70, R271. -/
  | bit6B
  /-- `BIT 6,C`, 0xCB 0x71, R271. -/
  | bit6C
  /-- `BIT 6,D`, 0xCB 0x72, R271. -/
  | bit6D
  /-- `BIT 6,E`, 0xCB 0x73, R271. -/
  | bit6E
  /-- `BIT 6,H`, 0xCB 0x74, R271. -/
  | bit6H
  /-- `BIT 6,L`, 0xCB 0x75, R271. -/
  | bit6L
  /-- `BIT 6,(HL)`, 0xCB 0x76, R272. -/
  | bit6MemHL
  /-- `BIT 6,A`, 0xCB 0x77, R271. -/
  | bit6A
  /-- `BIT 7,B`, 0xCB 0x78, R271. -/
  | bit7B
  /-- `BIT 7,C`, 0xCB 0x79, R271. -/
  | bit7C
  /-- `BIT 7,D`, 0xCB 0x7A, R271. -/
  | bit7D
  /-- `BIT 7,E`, 0xCB 0x7B, R271. -/
  | bit7E
  /-- `BIT 7,H`, 0xCB 0x7C, R271. -/
  | bit7H
  /-- `BIT 7,L`, 0xCB 0x7D, R271. -/
  | bit7L
  /-- `BIT 7,(HL)`, 0xCB 0x7E, R272. -/
  | bit7MemHL
  /-- `BIT 7,A`, 0xCB 0x7F, R271. -/
  | bit7A
  /-- `RES 0,B`, 0xCB 0x80, R273. -/
  | res0B
  /-- `RES 0,C`, 0xCB 0x81, R273. -/
  | res0C
  /-- `RES 0,D`, 0xCB 0x82, R273. -/
  | res0D
  /-- `RES 0,E`, 0xCB 0x83, R273. -/
  | res0E
  /-- `RES 0,H`, 0xCB 0x84, R273. -/
  | res0H
  /-- `RES 0,L`, 0xCB 0x85, R273. -/
  | res0L
  /-- `RES 0,(HL)`, 0xCB 0x86, R274. -/
  | res0MemHL
  /-- `RES 0,A`, 0xCB 0x87, R273. -/
  | res0A
  /-- `RES 1,B`, 0xCB 0x88, R273. -/
  | res1B
  /-- `RES 1,C`, 0xCB 0x89, R273. -/
  | res1C
  /-- `RES 1,D`, 0xCB 0x8A, R273. -/
  | res1D
  /-- `RES 1,E`, 0xCB 0x8B, R273. -/
  | res1E
  /-- `RES 1,H`, 0xCB 0x8C, R273. -/
  | res1H
  /-- `RES 1,L`, 0xCB 0x8D, R273. -/
  | res1L
  /-- `RES 1,(HL)`, 0xCB 0x8E, R274. -/
  | res1MemHL
  /-- `RES 1,A`, 0xCB 0x8F, R273. -/
  | res1A
  /-- `RES 2,B`, 0xCB 0x90, R273. -/
  | res2B
  /-- `RES 2,C`, 0xCB 0x91, R273. -/
  | res2C
  /-- `RES 2,D`, 0xCB 0x92, R273. -/
  | res2D
  /-- `RES 2,E`, 0xCB 0x93, R273. -/
  | res2E
  /-- `RES 2,H`, 0xCB 0x94, R273. -/
  | res2H
  /-- `RES 2,L`, 0xCB 0x95, R273. -/
  | res2L
  /-- `RES 2,(HL)`, 0xCB 0x96, R274. -/
  | res2MemHL
  /-- `RES 2,A`, 0xCB 0x97, R273. -/
  | res2A
  /-- `RES 3,B`, 0xCB 0x98, R273. -/
  | res3B
  /-- `RES 3,C`, 0xCB 0x99, R273. -/
  | res3C
  /-- `RES 3,D`, 0xCB 0x9A, R273. -/
  | res3D
  /-- `RES 3,E`, 0xCB 0x9B, R273. -/
  | res3E
  /-- `RES 3,H`, 0xCB 0x9C, R273. -/
  | res3H
  /-- `RES 3,L`, 0xCB 0x9D, R273. -/
  | res3L
  /-- `RES 3,(HL)`, 0xCB 0x9E, R274. -/
  | res3MemHL
  /-- `RES 3,A`, 0xCB 0x9F, R273. -/
  | res3A
  /-- `RES 4,B`, 0xCB 0xA0, R273. -/
  | res4B
  /-- `RES 4,C`, 0xCB 0xA1, R273. -/
  | res4C
  /-- `RES 4,D`, 0xCB 0xA2, R273. -/
  | res4D
  /-- `RES 4,E`, 0xCB 0xA3, R273. -/
  | res4E
  /-- `RES 4,H`, 0xCB 0xA4, R273. -/
  | res4H
  /-- `RES 4,L`, 0xCB 0xA5, R273. -/
  | res4L
  /-- `RES 4,(HL)`, 0xCB 0xA6, R274. -/
  | res4MemHL
  /-- `RES 4,A`, 0xCB 0xA7, R273. -/
  | res4A
  /-- `RES 5,B`, 0xCB 0xA8, R273. -/
  | res5B
  /-- `RES 5,C`, 0xCB 0xA9, R273. -/
  | res5C
  /-- `RES 5,D`, 0xCB 0xAA, R273. -/
  | res5D
  /-- `RES 5,E`, 0xCB 0xAB, R273. -/
  | res5E
  /-- `RES 5,H`, 0xCB 0xAC, R273. -/
  | res5H
  /-- `RES 5,L`, 0xCB 0xAD, R273. -/
  | res5L
  /-- `RES 5,(HL)`, 0xCB 0xAE, R274. -/
  | res5MemHL
  /-- `RES 5,A`, 0xCB 0xAF, R273. -/
  | res5A
  /-- `RES 6,B`, 0xCB 0xB0, R273. -/
  | res6B
  /-- `RES 6,C`, 0xCB 0xB1, R273. -/
  | res6C
  /-- `RES 6,D`, 0xCB 0xB2, R273. -/
  | res6D
  /-- `RES 6,E`, 0xCB 0xB3, R273. -/
  | res6E
  /-- `RES 6,H`, 0xCB 0xB4, R273. -/
  | res6H
  /-- `RES 6,L`, 0xCB 0xB5, R273. -/
  | res6L
  /-- `RES 6,(HL)`, 0xCB 0xB6, R274. -/
  | res6MemHL
  /-- `RES 6,A`, 0xCB 0xB7, R273. -/
  | res6A
  /-- `RES 7,B`, 0xCB 0xB8, R273. -/
  | res7B
  /-- `RES 7,C`, 0xCB 0xB9, R273. -/
  | res7C
  /-- `RES 7,D`, 0xCB 0xBA, R273. -/
  | res7D
  /-- `RES 7,E`, 0xCB 0xBB, R273. -/
  | res7E
  /-- `RES 7,H`, 0xCB 0xBC, R273. -/
  | res7H
  /-- `RES 7,L`, 0xCB 0xBD, R273. -/
  | res7L
  /-- `RES 7,(HL)`, 0xCB 0xBE, R274. -/
  | res7MemHL
  /-- `RES 7,A`, 0xCB 0xBF, R273. -/
  | res7A
  /-- `SET 0,B`, 0xCB 0xC0, R275. -/
  | set0B
  /-- `SET 0,C`, 0xCB 0xC1, R275. -/
  | set0C
  /-- `SET 0,D`, 0xCB 0xC2, R275. -/
  | set0D
  /-- `SET 0,E`, 0xCB 0xC3, R275. -/
  | set0E
  /-- `SET 0,H`, 0xCB 0xC4, R275. -/
  | set0H
  /-- `SET 0,L`, 0xCB 0xC5, R275. -/
  | set0L
  /-- `SET 0,(HL)`, 0xCB 0xC6, R276. -/
  | set0MemHL
  /-- `SET 0,A`, 0xCB 0xC7, R275. -/
  | set0A
  /-- `SET 1,B`, 0xCB 0xC8, R275. -/
  | set1B
  /-- `SET 1,C`, 0xCB 0xC9, R275. -/
  | set1C
  /-- `SET 1,D`, 0xCB 0xCA, R275. -/
  | set1D
  /-- `SET 1,E`, 0xCB 0xCB, R275. -/
  | set1E
  /-- `SET 1,H`, 0xCB 0xCC, R275. -/
  | set1H
  /-- `SET 1,L`, 0xCB 0xCD, R275. -/
  | set1L
  /-- `SET 1,(HL)`, 0xCB 0xCE, R276. -/
  | set1MemHL
  /-- `SET 1,A`, 0xCB 0xCF, R275. -/
  | set1A
  /-- `SET 2,B`, 0xCB 0xD0, R275. -/
  | set2B
  /-- `SET 2,C`, 0xCB 0xD1, R275. -/
  | set2C
  /-- `SET 2,D`, 0xCB 0xD2, R275. -/
  | set2D
  /-- `SET 2,E`, 0xCB 0xD3, R275. -/
  | set2E
  /-- `SET 2,H`, 0xCB 0xD4, R275. -/
  | set2H
  /-- `SET 2,L`, 0xCB 0xD5, R275. -/
  | set2L
  /-- `SET 2,(HL)`, 0xCB 0xD6, R276. -/
  | set2MemHL
  /-- `SET 2,A`, 0xCB 0xD7, R275. -/
  | set2A
  /-- `SET 3,B`, 0xCB 0xD8, R275. -/
  | set3B
  /-- `SET 3,C`, 0xCB 0xD9, R275. -/
  | set3C
  /-- `SET 3,D`, 0xCB 0xDA, R275. -/
  | set3D
  /-- `SET 3,E`, 0xCB 0xDB, R275. -/
  | set3E
  /-- `SET 3,H`, 0xCB 0xDC, R275. -/
  | set3H
  /-- `SET 3,L`, 0xCB 0xDD, R275. -/
  | set3L
  /-- `SET 3,(HL)`, 0xCB 0xDE, R276. -/
  | set3MemHL
  /-- `SET 3,A`, 0xCB 0xDF, R275. -/
  | set3A
  /-- `SET 4,B`, 0xCB 0xE0, R275. -/
  | set4B
  /-- `SET 4,C`, 0xCB 0xE1, R275. -/
  | set4C
  /-- `SET 4,D`, 0xCB 0xE2, R275. -/
  | set4D
  /-- `SET 4,E`, 0xCB 0xE3, R275. -/
  | set4E
  /-- `SET 4,H`, 0xCB 0xE4, R275. -/
  | set4H
  /-- `SET 4,L`, 0xCB 0xE5, R275. -/
  | set4L
  /-- `SET 4,(HL)`, 0xCB 0xE6, R276. -/
  | set4MemHL
  /-- `SET 4,A`, 0xCB 0xE7, R275. -/
  | set4A
  /-- `SET 5,B`, 0xCB 0xE8, R275. -/
  | set5B
  /-- `SET 5,C`, 0xCB 0xE9, R275. -/
  | set5C
  /-- `SET 5,D`, 0xCB 0xEA, R275. -/
  | set5D
  /-- `SET 5,E`, 0xCB 0xEB, R275. -/
  | set5E
  /-- `SET 5,H`, 0xCB 0xEC, R275. -/
  | set5H
  /-- `SET 5,L`, 0xCB 0xED, R275. -/
  | set5L
  /-- `SET 5,(HL)`, 0xCB 0xEE, R276. -/
  | set5MemHL
  /-- `SET 5,A`, 0xCB 0xEF, R275. -/
  | set5A
  /-- `SET 6,B`, 0xCB 0xF0, R275. -/
  | set6B
  /-- `SET 6,C`, 0xCB 0xF1, R275. -/
  | set6C
  /-- `SET 6,D`, 0xCB 0xF2, R275. -/
  | set6D
  /-- `SET 6,E`, 0xCB 0xF3, R275. -/
  | set6E
  /-- `SET 6,H`, 0xCB 0xF4, R275. -/
  | set6H
  /-- `SET 6,L`, 0xCB 0xF5, R275. -/
  | set6L
  /-- `SET 6,(HL)`, 0xCB 0xF6, R276. -/
  | set6MemHL
  /-- `SET 6,A`, 0xCB 0xF7, R275. -/
  | set6A
  /-- `SET 7,B`, 0xCB 0xF8, R275. -/
  | set7B
  /-- `SET 7,C`, 0xCB 0xF9, R275. -/
  | set7C
  /-- `SET 7,D`, 0xCB 0xFA, R275. -/
  | set7D
  /-- `SET 7,E`, 0xCB 0xFB, R275. -/
  | set7E
  /-- `SET 7,H`, 0xCB 0xFC, R275. -/
  | set7H
  /-- `SET 7,L`, 0xCB 0xFD, R275. -/
  | set7L
  /-- `SET 7,(HL)`, 0xCB 0xFE, R276. -/
  | set7MemHL
  /-- `SET 7,A`, 0xCB 0xFF, R275. -/
  | set7A
  deriving DecidableEq, Repr

end Sys2Proof
end

