-- ==== Sys2Proof/Decode.lean ====
section
/-! DEFINITION. The opcode maps of 30_encoding R132 and R133 as data tables, the decoder over them (R120 to
R122, R135), total on any bytes, and the encoder. -/

namespace Sys2Proof

/-- One cell of the unprefixed opcode map: the format of R120 with the instruction its operands make,
the prefix (R133), or an illegal byte (R135). -/
inductive OpForm where
  | op (i : Instr)
  | opN (mk : Byte → Instr)
  | opE (mk : Byte → Instr)
  | opNN (mk : Word → Instr)
  | prefixCB
  | illegal

/-- Length in bytes of an instruction with this first byte (R120: "decided by its first byte alone");
the decode of an illegal byte stops after it (R135). -/
def OpForm.length : OpForm → Nat
  | .op _ => 1
  | .opN _ => 2
  | .opE _ => 2
  | .opNN _ => 3
  | .prefixCB => 2
  | .illegal => 1

/-- Row 0x of the unprefixed opcode map (30_encoding R132). -/
def unprefixedRow0 : List OpForm :=
  [ .op .nop, .opNN .ldBCNN, .op .ldMemBCA, .op .incBC,
    .op .incB, .op .decB, .opN .ldBN, .op .rlca,
    .opNN .ldMemNNSP, .op .addHLBC, .op .ldAMemBC, .op .decBC,
    .op .incC, .op .decC, .opN .ldCN, .op .rrca ]

/-- Row 1x of the unprefixed opcode map (30_encoding R132). -/
def unprefixedRow1 : List OpForm :=
  [ .opN .stop, .opNN .ldDENN, .op .ldMemDEA, .op .incDE,
    .op .incD, .op .decD, .opN .ldDN, .op .rla,
    .opE .jrE8, .op .addHLDE, .op .ldAMemDE, .op .decDE,
    .op .incE, .op .decE, .opN .ldEN, .op .rra ]

/-- Row 2x of the unprefixed opcode map (30_encoding R132). -/
def unprefixedRow2 : List OpForm :=
  [ .opE .jrNZE8, .opNN .ldHLNN, .op .ldMemHLIncA, .op .incHL,
    .op .incH, .op .decH, .opN .ldHN, .op .daa,
    .opE .jrZE8, .op .addHLHL, .op .ldAMemHLInc, .op .decHL,
    .op .incL, .op .decL, .opN .ldLN, .op .cpl ]

/-- Row 3x of the unprefixed opcode map (30_encoding R132). -/
def unprefixedRow3 : List OpForm :=
  [ .opE .jrNCE8, .opNN .ldSPNN, .op .ldMemHLDecA, .op .incSP,
    .op .incMemHL, .op .decMemHL, .opN .ldMemHLN, .op .scf,
    .opE .jrCE8, .op .addHLSP, .op .ldAMemHLDec, .op .decSP,
    .op .incA, .op .decA, .opN .ldAN, .op .ccf ]

/-- Row 4x of the unprefixed opcode map (30_encoding R132). -/
def unprefixedRow4 : List OpForm :=
  [ .op .ldBB, .op .ldBC, .op .ldBD, .op .ldBE,
    .op .ldBH, .op .ldBL, .op .ldBMemHL, .op .ldBA,
    .op .ldCB, .op .ldCC, .op .ldCD, .op .ldCE,
    .op .ldCH, .op .ldCL, .op .ldCMemHL, .op .ldCA ]

/-- Row 5x of the unprefixed opcode map (30_encoding R132). -/
def unprefixedRow5 : List OpForm :=
  [ .op .ldDB, .op .ldDC, .op .ldDD, .op .ldDE,
    .op .ldDH, .op .ldDL, .op .ldDMemHL, .op .ldDA,
    .op .ldEB, .op .ldEC, .op .ldED, .op .ldEE,
    .op .ldEH, .op .ldEL, .op .ldEMemHL, .op .ldEA ]

/-- Row 6x of the unprefixed opcode map (30_encoding R132). -/
def unprefixedRow6 : List OpForm :=
  [ .op .ldHB, .op .ldHC, .op .ldHD, .op .ldHE,
    .op .ldHH, .op .ldHL, .op .ldHMemHL, .op .ldHA,
    .op .ldLB, .op .ldLC, .op .ldLD, .op .ldLE,
    .op .ldLH, .op .ldLL, .op .ldLMemHL, .op .ldLA ]

/-- Row 7x of the unprefixed opcode map (30_encoding R132). -/
def unprefixedRow7 : List OpForm :=
  [ .op .ldMemHLB, .op .ldMemHLC, .op .ldMemHLD, .op .ldMemHLE,
    .op .ldMemHLH, .op .ldMemHLL, .op .halt, .op .ldMemHLA,
    .op .ldAB, .op .ldAC, .op .ldAD, .op .ldAE,
    .op .ldAH, .op .ldAL, .op .ldAMemHL, .op .ldAA ]

/-- Row 8x of the unprefixed opcode map (30_encoding R132). -/
def unprefixedRow8 : List OpForm :=
  [ .op .addAB, .op .addAC, .op .addAD, .op .addAE,
    .op .addAH, .op .addAL, .op .addAMemHL, .op .addAA,
    .op .adcAB, .op .adcAC, .op .adcAD, .op .adcAE,
    .op .adcAH, .op .adcAL, .op .adcAMemHL, .op .adcAA ]

/-- Row 9x of the unprefixed opcode map (30_encoding R132). -/
def unprefixedRow9 : List OpForm :=
  [ .op .subB, .op .subC, .op .subD, .op .subE,
    .op .subH, .op .subL, .op .subMemHL, .op .subA,
    .op .sbcAB, .op .sbcAC, .op .sbcAD, .op .sbcAE,
    .op .sbcAH, .op .sbcAL, .op .sbcAMemHL, .op .sbcAA ]

/-- Row Ax of the unprefixed opcode map (30_encoding R132). -/
def unprefixedRowA : List OpForm :=
  [ .op .andB, .op .andC, .op .andD, .op .andE,
    .op .andH, .op .andL, .op .andMemHL, .op .andA,
    .op .xorB, .op .xorC, .op .xorD, .op .xorE,
    .op .xorH, .op .xorL, .op .xorMemHL, .op .xorA ]

/-- Row Bx of the unprefixed opcode map (30_encoding R132). -/
def unprefixedRowB : List OpForm :=
  [ .op .orB, .op .orC, .op .orD, .op .orE,
    .op .orH, .op .orL, .op .orMemHL, .op .orA,
    .op .cpB, .op .cpC, .op .cpD, .op .cpE,
    .op .cpH, .op .cpL, .op .cpMemHL, .op .cpA ]

/-- Row Cx of the unprefixed opcode map (30_encoding R132). -/
def unprefixedRowC : List OpForm :=
  [ .op .retNZ, .op .popBC, .opNN .jpNZNN, .opNN .jpNN,
    .opNN .callNZNN, .op .pushBC, .opN .addAN, .op .rst00,
    .op .retZ, .op .ret, .opNN .jpZNN, .prefixCB,
    .opNN .callZNN, .opNN .callNN, .opN .adcAN, .op .rst08 ]

/-- Row Dx of the unprefixed opcode map (30_encoding R132). -/
def unprefixedRowD : List OpForm :=
  [ .op .retNC, .op .popDE, .opNN .jpNCNN, .illegal,
    .opNN .callNCNN, .op .pushDE, .opN .subN, .op .rst10,
    .op .retC, .op .reti, .opNN .jpCNN, .illegal,
    .opNN .callCNN, .illegal, .opN .sbcAN, .op .rst18 ]

/-- Row Ex of the unprefixed opcode map (30_encoding R132). -/
def unprefixedRowE : List OpForm :=
  [ .opN .ldhMemNA, .op .popHL, .op .ldhMemCA, .illegal,
    .illegal, .op .pushHL, .opN .andN, .op .rst20,
    .opE .addSPE8, .op .jpHL, .opNN .ldMemNNA, .illegal,
    .illegal, .illegal, .opN .xorN, .op .rst28 ]

/-- Row Fx of the unprefixed opcode map (30_encoding R132). -/
def unprefixedRowF : List OpForm :=
  [ .opN .ldhAMemN, .op .popAF, .op .ldhAMemC, .op .di,
    .illegal, .op .pushAF, .opN .orN, .op .rst30,
    .opE .ldHLSPE, .op .ldSPHL, .opNN .ldAMemNN, .op .ei,
    .illegal, .illegal, .opN .cpN, .op .rst38 ]

/-- The unprefixed opcode map (30_encoding R132), by high nibble. -/
def unprefixedRows : List (List OpForm) :=
  [ unprefixedRow0, unprefixedRow1, unprefixedRow2, unprefixedRow3, unprefixedRow4, unprefixedRow5, unprefixedRow6, unprefixedRow7, unprefixedRow8, unprefixedRow9, unprefixedRowA, unprefixedRowB, unprefixedRowC, unprefixedRowD, unprefixedRowE, unprefixedRowF ]

/-- Row 0x of the 0xCB-prefixed opcode map (30_encoding R133). -/
def prefixedRow0 : List Instr :=
  [ .rlcB, .rlcC, .rlcD, .rlcE,
    .rlcH, .rlcL, .rlcMemHL, .rlcA,
    .rrcB, .rrcC, .rrcD, .rrcE,
    .rrcH, .rrcL, .rrcMemHL, .rrcA ]

/-- Row 1x of the 0xCB-prefixed opcode map (30_encoding R133). -/
def prefixedRow1 : List Instr :=
  [ .rlB, .rlC, .rlD, .rlE,
    .rlH, .rlL, .rlMemHL, .rlA,
    .rrB, .rrC, .rrD, .rrE,
    .rrH, .rrL, .rrMemHL, .rrA ]

/-- Row 2x of the 0xCB-prefixed opcode map (30_encoding R133). -/
def prefixedRow2 : List Instr :=
  [ .slaB, .slaC, .slaD, .slaE,
    .slaH, .slaL, .slaMemHL, .slaA,
    .sraB, .sraC, .sraD, .sraE,
    .sraH, .sraL, .sraMemHL, .sraA ]

/-- Row 3x of the 0xCB-prefixed opcode map (30_encoding R133). -/
def prefixedRow3 : List Instr :=
  [ .swapB, .swapC, .swapD, .swapE,
    .swapH, .swapL, .swapMemHL, .swapA,
    .srlB, .srlC, .srlD, .srlE,
    .srlH, .srlL, .srlMemHL, .srlA ]

/-- Row 4x of the 0xCB-prefixed opcode map (30_encoding R133). -/
def prefixedRow4 : List Instr :=
  [ .bit0B, .bit0C, .bit0D, .bit0E,
    .bit0H, .bit0L, .bit0MemHL, .bit0A,
    .bit1B, .bit1C, .bit1D, .bit1E,
    .bit1H, .bit1L, .bit1MemHL, .bit1A ]

/-- Row 5x of the 0xCB-prefixed opcode map (30_encoding R133). -/
def prefixedRow5 : List Instr :=
  [ .bit2B, .bit2C, .bit2D, .bit2E,
    .bit2H, .bit2L, .bit2MemHL, .bit2A,
    .bit3B, .bit3C, .bit3D, .bit3E,
    .bit3H, .bit3L, .bit3MemHL, .bit3A ]

/-- Row 6x of the 0xCB-prefixed opcode map (30_encoding R133). -/
def prefixedRow6 : List Instr :=
  [ .bit4B, .bit4C, .bit4D, .bit4E,
    .bit4H, .bit4L, .bit4MemHL, .bit4A,
    .bit5B, .bit5C, .bit5D, .bit5E,
    .bit5H, .bit5L, .bit5MemHL, .bit5A ]

/-- Row 7x of the 0xCB-prefixed opcode map (30_encoding R133). -/
def prefixedRow7 : List Instr :=
  [ .bit6B, .bit6C, .bit6D, .bit6E,
    .bit6H, .bit6L, .bit6MemHL, .bit6A,
    .bit7B, .bit7C, .bit7D, .bit7E,
    .bit7H, .bit7L, .bit7MemHL, .bit7A ]

/-- Row 8x of the 0xCB-prefixed opcode map (30_encoding R133). -/
def prefixedRow8 : List Instr :=
  [ .res0B, .res0C, .res0D, .res0E,
    .res0H, .res0L, .res0MemHL, .res0A,
    .res1B, .res1C, .res1D, .res1E,
    .res1H, .res1L, .res1MemHL, .res1A ]

/-- Row 9x of the 0xCB-prefixed opcode map (30_encoding R133). -/
def prefixedRow9 : List Instr :=
  [ .res2B, .res2C, .res2D, .res2E,
    .res2H, .res2L, .res2MemHL, .res2A,
    .res3B, .res3C, .res3D, .res3E,
    .res3H, .res3L, .res3MemHL, .res3A ]

/-- Row Ax of the 0xCB-prefixed opcode map (30_encoding R133). -/
def prefixedRowA : List Instr :=
  [ .res4B, .res4C, .res4D, .res4E,
    .res4H, .res4L, .res4MemHL, .res4A,
    .res5B, .res5C, .res5D, .res5E,
    .res5H, .res5L, .res5MemHL, .res5A ]

/-- Row Bx of the 0xCB-prefixed opcode map (30_encoding R133). -/
def prefixedRowB : List Instr :=
  [ .res6B, .res6C, .res6D, .res6E,
    .res6H, .res6L, .res6MemHL, .res6A,
    .res7B, .res7C, .res7D, .res7E,
    .res7H, .res7L, .res7MemHL, .res7A ]

/-- Row Cx of the 0xCB-prefixed opcode map (30_encoding R133). -/
def prefixedRowC : List Instr :=
  [ .set0B, .set0C, .set0D, .set0E,
    .set0H, .set0L, .set0MemHL, .set0A,
    .set1B, .set1C, .set1D, .set1E,
    .set1H, .set1L, .set1MemHL, .set1A ]

/-- Row Dx of the 0xCB-prefixed opcode map (30_encoding R133). -/
def prefixedRowD : List Instr :=
  [ .set2B, .set2C, .set2D, .set2E,
    .set2H, .set2L, .set2MemHL, .set2A,
    .set3B, .set3C, .set3D, .set3E,
    .set3H, .set3L, .set3MemHL, .set3A ]

/-- Row Ex of the 0xCB-prefixed opcode map (30_encoding R133). -/
def prefixedRowE : List Instr :=
  [ .set4B, .set4C, .set4D, .set4E,
    .set4H, .set4L, .set4MemHL, .set4A,
    .set5B, .set5C, .set5D, .set5E,
    .set5H, .set5L, .set5MemHL, .set5A ]

/-- Row Fx of the 0xCB-prefixed opcode map (30_encoding R133). -/
def prefixedRowF : List Instr :=
  [ .set6B, .set6C, .set6D, .set6E,
    .set6H, .set6L, .set6MemHL, .set6A,
    .set7B, .set7C, .set7D, .set7E,
    .set7H, .set7L, .set7MemHL, .set7A ]

/-- The 0xCB-prefixed opcode map (30_encoding R133), by high nibble. -/
def prefixedRows : List (List Instr) :=
  [ prefixedRow0, prefixedRow1, prefixedRow2, prefixedRow3, prefixedRow4, prefixedRow5, prefixedRow6, prefixedRow7, prefixedRow8, prefixedRow9, prefixedRowA, prefixedRowB, prefixedRowC, prefixedRowD, prefixedRowE, prefixedRowF ]

/-- The cell of the unprefixed map for a first byte (R132). The fallback value is never used: every nibble
has its row and column. -/
def opForm (op : Byte) : OpForm :=
  (unprefixedRows.getD (op.toNat / 16) []).getD (op.toNat % 16) .illegal

/-- The instruction of the prefixed map for a second byte (R133); total (R136). -/
def prefixedInstr (op2 : Byte) : Instr :=
  (prefixedRows.getD (op2.toNat / 16) []).getD (op2.toNat % 16) .nop

/-- The instruction that a stream starting with these three bytes holds (R122); bytes beyond its length
are not looked at. `none` for an illegal first byte (R135), the only reason. -/
def decode3 (b0 b1 b2 : Byte) : Option Instr :=
  match opForm b0 with
  | .op i => some i
  | .opN mk => some (mk b1)
  | .opE mk => some (mk b1)
  | .opNN mk => some (mk (join b2 b1))
  | .prefixCB => some (prefixedInstr b1)
  | .illegal => none

/-- Why bytes hold no instruction. -/
inductive DecodeError where
  /-- The first byte is one of the eleven illegal opcodes (R135). -/
  | illegalOpcode (op : Byte)
  /-- The bytes end before the instruction does. -/
  | truncated
  deriving DecidableEq, Repr

/-- Decode the instruction at the head of a byte string, with the bytes after it; total, rejecting by name. -/
def decode (bs : List Byte) : Except DecodeError (Instr × List Byte) :=
  match bs with
  | [] => .error .truncated
  | b0 :: t =>
    match decode3 b0 (t.getD 0 0) (t.getD 1 0) with
    | none => .error (.illegalOpcode b0)
    | some i =>
      if (opForm b0).length ≤ bs.length then .ok (i, bs.drop (opForm b0).length)
      else .error .truncated

/-- The bytes of an instruction (30_encoding R120, R124, R132, R133), at rising addresses. -/
def encode : Instr → List Byte
  | .nop => [0x00]
  | .ldBCNN nn => [0x01, loByte nn, hiByte nn]
  | .ldMemBCA => [0x02]
  | .incBC => [0x03]
  | .incB => [0x04]
  | .decB => [0x05]
  | .ldBN n => [0x06, n]
  | .rlca => [0x07]
  | .ldMemNNSP nn => [0x08, loByte nn, hiByte nn]
  | .addHLBC => [0x09]
  | .ldAMemBC => [0x0A]
  | .decBC => [0x0B]
  | .incC => [0x0C]
  | .decC => [0x0D]
  | .ldCN n => [0x0E, n]
  | .rrca => [0x0F]
  | .stop n => [0x10, n]
  | .ldDENN nn => [0x11, loByte nn, hiByte nn]
  | .ldMemDEA => [0x12]
  | .incDE => [0x13]
  | .incD => [0x14]
  | .decD => [0x15]
  | .ldDN n => [0x16, n]
  | .rla => [0x17]
  | .jrE8 e => [0x18, e]
  | .addHLDE => [0x19]
  | .ldAMemDE => [0x1A]
  | .decDE => [0x1B]
  | .incE => [0x1C]
  | .decE => [0x1D]
  | .ldEN n => [0x1E, n]
  | .rra => [0x1F]
  | .jrNZE8 e => [0x20, e]
  | .ldHLNN nn => [0x21, loByte nn, hiByte nn]
  | .ldMemHLIncA => [0x22]
  | .incHL => [0x23]
  | .incH => [0x24]
  | .decH => [0x25]
  | .ldHN n => [0x26, n]
  | .daa => [0x27]
  | .jrZE8 e => [0x28, e]
  | .addHLHL => [0x29]
  | .ldAMemHLInc => [0x2A]
  | .decHL => [0x2B]
  | .incL => [0x2C]
  | .decL => [0x2D]
  | .ldLN n => [0x2E, n]
  | .cpl => [0x2F]
  | .jrNCE8 e => [0x30, e]
  | .ldSPNN nn => [0x31, loByte nn, hiByte nn]
  | .ldMemHLDecA => [0x32]
  | .incSP => [0x33]
  | .incMemHL => [0x34]
  | .decMemHL => [0x35]
  | .ldMemHLN n => [0x36, n]
  | .scf => [0x37]
  | .jrCE8 e => [0x38, e]
  | .addHLSP => [0x39]
  | .ldAMemHLDec => [0x3A]
  | .decSP => [0x3B]
  | .incA => [0x3C]
  | .decA => [0x3D]
  | .ldAN n => [0x3E, n]
  | .ccf => [0x3F]
  | .ldBB => [0x40]
  | .ldBC => [0x41]
  | .ldBD => [0x42]
  | .ldBE => [0x43]
  | .ldBH => [0x44]
  | .ldBL => [0x45]
  | .ldBMemHL => [0x46]
  | .ldBA => [0x47]
  | .ldCB => [0x48]
  | .ldCC => [0x49]
  | .ldCD => [0x4A]
  | .ldCE => [0x4B]
  | .ldCH => [0x4C]
  | .ldCL => [0x4D]
  | .ldCMemHL => [0x4E]
  | .ldCA => [0x4F]
  | .ldDB => [0x50]
  | .ldDC => [0x51]
  | .ldDD => [0x52]
  | .ldDE => [0x53]
  | .ldDH => [0x54]
  | .ldDL => [0x55]
  | .ldDMemHL => [0x56]
  | .ldDA => [0x57]
  | .ldEB => [0x58]
  | .ldEC => [0x59]
  | .ldED => [0x5A]
  | .ldEE => [0x5B]
  | .ldEH => [0x5C]
  | .ldEL => [0x5D]
  | .ldEMemHL => [0x5E]
  | .ldEA => [0x5F]
  | .ldHB => [0x60]
  | .ldHC => [0x61]
  | .ldHD => [0x62]
  | .ldHE => [0x63]
  | .ldHH => [0x64]
  | .ldHL => [0x65]
  | .ldHMemHL => [0x66]
  | .ldHA => [0x67]
  | .ldLB => [0x68]
  | .ldLC => [0x69]
  | .ldLD => [0x6A]
  | .ldLE => [0x6B]
  | .ldLH => [0x6C]
  | .ldLL => [0x6D]
  | .ldLMemHL => [0x6E]
  | .ldLA => [0x6F]
  | .ldMemHLB => [0x70]
  | .ldMemHLC => [0x71]
  | .ldMemHLD => [0x72]
  | .ldMemHLE => [0x73]
  | .ldMemHLH => [0x74]
  | .ldMemHLL => [0x75]
  | .halt => [0x76]
  | .ldMemHLA => [0x77]
  | .ldAB => [0x78]
  | .ldAC => [0x79]
  | .ldAD => [0x7A]
  | .ldAE => [0x7B]
  | .ldAH => [0x7C]
  | .ldAL => [0x7D]
  | .ldAMemHL => [0x7E]
  | .ldAA => [0x7F]
  | .addAB => [0x80]
  | .addAC => [0x81]
  | .addAD => [0x82]
  | .addAE => [0x83]
  | .addAH => [0x84]
  | .addAL => [0x85]
  | .addAMemHL => [0x86]
  | .addAA => [0x87]
  | .adcAB => [0x88]
  | .adcAC => [0x89]
  | .adcAD => [0x8A]
  | .adcAE => [0x8B]
  | .adcAH => [0x8C]
  | .adcAL => [0x8D]
  | .adcAMemHL => [0x8E]
  | .adcAA => [0x8F]
  | .subB => [0x90]
  | .subC => [0x91]
  | .subD => [0x92]
  | .subE => [0x93]
  | .subH => [0x94]
  | .subL => [0x95]
  | .subMemHL => [0x96]
  | .subA => [0x97]
  | .sbcAB => [0x98]
  | .sbcAC => [0x99]
  | .sbcAD => [0x9A]
  | .sbcAE => [0x9B]
  | .sbcAH => [0x9C]
  | .sbcAL => [0x9D]
  | .sbcAMemHL => [0x9E]
  | .sbcAA => [0x9F]
  | .andB => [0xA0]
  | .andC => [0xA1]
  | .andD => [0xA2]
  | .andE => [0xA3]
  | .andH => [0xA4]
  | .andL => [0xA5]
  | .andMemHL => [0xA6]
  | .andA => [0xA7]
  | .xorB => [0xA8]
  | .xorC => [0xA9]
  | .xorD => [0xAA]
  | .xorE => [0xAB]
  | .xorH => [0xAC]
  | .xorL => [0xAD]
  | .xorMemHL => [0xAE]
  | .xorA => [0xAF]
  | .orB => [0xB0]
  | .orC => [0xB1]
  | .orD => [0xB2]
  | .orE => [0xB3]
  | .orH => [0xB4]
  | .orL => [0xB5]
  | .orMemHL => [0xB6]
  | .orA => [0xB7]
  | .cpB => [0xB8]
  | .cpC => [0xB9]
  | .cpD => [0xBA]
  | .cpE => [0xBB]
  | .cpH => [0xBC]
  | .cpL => [0xBD]
  | .cpMemHL => [0xBE]
  | .cpA => [0xBF]
  | .retNZ => [0xC0]
  | .popBC => [0xC1]
  | .jpNZNN nn => [0xC2, loByte nn, hiByte nn]
  | .jpNN nn => [0xC3, loByte nn, hiByte nn]
  | .callNZNN nn => [0xC4, loByte nn, hiByte nn]
  | .pushBC => [0xC5]
  | .addAN n => [0xC6, n]
  | .rst00 => [0xC7]
  | .retZ => [0xC8]
  | .ret => [0xC9]
  | .jpZNN nn => [0xCA, loByte nn, hiByte nn]
  | .callZNN nn => [0xCC, loByte nn, hiByte nn]
  | .callNN nn => [0xCD, loByte nn, hiByte nn]
  | .adcAN n => [0xCE, n]
  | .rst08 => [0xCF]
  | .retNC => [0xD0]
  | .popDE => [0xD1]
  | .jpNCNN nn => [0xD2, loByte nn, hiByte nn]
  | .callNCNN nn => [0xD4, loByte nn, hiByte nn]
  | .pushDE => [0xD5]
  | .subN n => [0xD6, n]
  | .rst10 => [0xD7]
  | .retC => [0xD8]
  | .reti => [0xD9]
  | .jpCNN nn => [0xDA, loByte nn, hiByte nn]
  | .callCNN nn => [0xDC, loByte nn, hiByte nn]
  | .sbcAN n => [0xDE, n]
  | .rst18 => [0xDF]
  | .ldhMemNA n => [0xE0, n]
  | .popHL => [0xE1]
  | .ldhMemCA => [0xE2]
  | .pushHL => [0xE5]
  | .andN n => [0xE6, n]
  | .rst20 => [0xE7]
  | .addSPE8 e => [0xE8, e]
  | .jpHL => [0xE9]
  | .ldMemNNA nn => [0xEA, loByte nn, hiByte nn]
  | .xorN n => [0xEE, n]
  | .rst28 => [0xEF]
  | .ldhAMemN n => [0xF0, n]
  | .popAF => [0xF1]
  | .ldhAMemC => [0xF2]
  | .di => [0xF3]
  | .pushAF => [0xF5]
  | .orN n => [0xF6, n]
  | .rst30 => [0xF7]
  | .ldHLSPE e => [0xF8, e]
  | .ldSPHL => [0xF9]
  | .ldAMemNN nn => [0xFA, loByte nn, hiByte nn]
  | .ei => [0xFB]
  | .cpN n => [0xFE, n]
  | .rst38 => [0xFF]
  | .rlcB => [0xCB, 0x00]
  | .rlcC => [0xCB, 0x01]
  | .rlcD => [0xCB, 0x02]
  | .rlcE => [0xCB, 0x03]
  | .rlcH => [0xCB, 0x04]
  | .rlcL => [0xCB, 0x05]
  | .rlcMemHL => [0xCB, 0x06]
  | .rlcA => [0xCB, 0x07]
  | .rrcB => [0xCB, 0x08]
  | .rrcC => [0xCB, 0x09]
  | .rrcD => [0xCB, 0x0A]
  | .rrcE => [0xCB, 0x0B]
  | .rrcH => [0xCB, 0x0C]
  | .rrcL => [0xCB, 0x0D]
  | .rrcMemHL => [0xCB, 0x0E]
  | .rrcA => [0xCB, 0x0F]
  | .rlB => [0xCB, 0x10]
  | .rlC => [0xCB, 0x11]
  | .rlD => [0xCB, 0x12]
  | .rlE => [0xCB, 0x13]
  | .rlH => [0xCB, 0x14]
  | .rlL => [0xCB, 0x15]
  | .rlMemHL => [0xCB, 0x16]
  | .rlA => [0xCB, 0x17]
  | .rrB => [0xCB, 0x18]
  | .rrC => [0xCB, 0x19]
  | .rrD => [0xCB, 0x1A]
  | .rrE => [0xCB, 0x1B]
  | .rrH => [0xCB, 0x1C]
  | .rrL => [0xCB, 0x1D]
  | .rrMemHL => [0xCB, 0x1E]
  | .rrA => [0xCB, 0x1F]
  | .slaB => [0xCB, 0x20]
  | .slaC => [0xCB, 0x21]
  | .slaD => [0xCB, 0x22]
  | .slaE => [0xCB, 0x23]
  | .slaH => [0xCB, 0x24]
  | .slaL => [0xCB, 0x25]
  | .slaMemHL => [0xCB, 0x26]
  | .slaA => [0xCB, 0x27]
  | .sraB => [0xCB, 0x28]
  | .sraC => [0xCB, 0x29]
  | .sraD => [0xCB, 0x2A]
  | .sraE => [0xCB, 0x2B]
  | .sraH => [0xCB, 0x2C]
  | .sraL => [0xCB, 0x2D]
  | .sraMemHL => [0xCB, 0x2E]
  | .sraA => [0xCB, 0x2F]
  | .swapB => [0xCB, 0x30]
  | .swapC => [0xCB, 0x31]
  | .swapD => [0xCB, 0x32]
  | .swapE => [0xCB, 0x33]
  | .swapH => [0xCB, 0x34]
  | .swapL => [0xCB, 0x35]
  | .swapMemHL => [0xCB, 0x36]
  | .swapA => [0xCB, 0x37]
  | .srlB => [0xCB, 0x38]
  | .srlC => [0xCB, 0x39]
  | .srlD => [0xCB, 0x3A]
  | .srlE => [0xCB, 0x3B]
  | .srlH => [0xCB, 0x3C]
  | .srlL => [0xCB, 0x3D]
  | .srlMemHL => [0xCB, 0x3E]
  | .srlA => [0xCB, 0x3F]
  | .bit0B => [0xCB, 0x40]
  | .bit0C => [0xCB, 0x41]
  | .bit0D => [0xCB, 0x42]
  | .bit0E => [0xCB, 0x43]
  | .bit0H => [0xCB, 0x44]
  | .bit0L => [0xCB, 0x45]
  | .bit0MemHL => [0xCB, 0x46]
  | .bit0A => [0xCB, 0x47]
  | .bit1B => [0xCB, 0x48]
  | .bit1C => [0xCB, 0x49]
  | .bit1D => [0xCB, 0x4A]
  | .bit1E => [0xCB, 0x4B]
  | .bit1H => [0xCB, 0x4C]
  | .bit1L => [0xCB, 0x4D]
  | .bit1MemHL => [0xCB, 0x4E]
  | .bit1A => [0xCB, 0x4F]
  | .bit2B => [0xCB, 0x50]
  | .bit2C => [0xCB, 0x51]
  | .bit2D => [0xCB, 0x52]
  | .bit2E => [0xCB, 0x53]
  | .bit2H => [0xCB, 0x54]
  | .bit2L => [0xCB, 0x55]
  | .bit2MemHL => [0xCB, 0x56]
  | .bit2A => [0xCB, 0x57]
  | .bit3B => [0xCB, 0x58]
  | .bit3C => [0xCB, 0x59]
  | .bit3D => [0xCB, 0x5A]
  | .bit3E => [0xCB, 0x5B]
  | .bit3H => [0xCB, 0x5C]
  | .bit3L => [0xCB, 0x5D]
  | .bit3MemHL => [0xCB, 0x5E]
  | .bit3A => [0xCB, 0x5F]
  | .bit4B => [0xCB, 0x60]
  | .bit4C => [0xCB, 0x61]
  | .bit4D => [0xCB, 0x62]
  | .bit4E => [0xCB, 0x63]
  | .bit4H => [0xCB, 0x64]
  | .bit4L => [0xCB, 0x65]
  | .bit4MemHL => [0xCB, 0x66]
  | .bit4A => [0xCB, 0x67]
  | .bit5B => [0xCB, 0x68]
  | .bit5C => [0xCB, 0x69]
  | .bit5D => [0xCB, 0x6A]
  | .bit5E => [0xCB, 0x6B]
  | .bit5H => [0xCB, 0x6C]
  | .bit5L => [0xCB, 0x6D]
  | .bit5MemHL => [0xCB, 0x6E]
  | .bit5A => [0xCB, 0x6F]
  | .bit6B => [0xCB, 0x70]
  | .bit6C => [0xCB, 0x71]
  | .bit6D => [0xCB, 0x72]
  | .bit6E => [0xCB, 0x73]
  | .bit6H => [0xCB, 0x74]
  | .bit6L => [0xCB, 0x75]
  | .bit6MemHL => [0xCB, 0x76]
  | .bit6A => [0xCB, 0x77]
  | .bit7B => [0xCB, 0x78]
  | .bit7C => [0xCB, 0x79]
  | .bit7D => [0xCB, 0x7A]
  | .bit7E => [0xCB, 0x7B]
  | .bit7H => [0xCB, 0x7C]
  | .bit7L => [0xCB, 0x7D]
  | .bit7MemHL => [0xCB, 0x7E]
  | .bit7A => [0xCB, 0x7F]
  | .res0B => [0xCB, 0x80]
  | .res0C => [0xCB, 0x81]
  | .res0D => [0xCB, 0x82]
  | .res0E => [0xCB, 0x83]
  | .res0H => [0xCB, 0x84]
  | .res0L => [0xCB, 0x85]
  | .res0MemHL => [0xCB, 0x86]
  | .res0A => [0xCB, 0x87]
  | .res1B => [0xCB, 0x88]
  | .res1C => [0xCB, 0x89]
  | .res1D => [0xCB, 0x8A]
  | .res1E => [0xCB, 0x8B]
  | .res1H => [0xCB, 0x8C]
  | .res1L => [0xCB, 0x8D]
  | .res1MemHL => [0xCB, 0x8E]
  | .res1A => [0xCB, 0x8F]
  | .res2B => [0xCB, 0x90]
  | .res2C => [0xCB, 0x91]
  | .res2D => [0xCB, 0x92]
  | .res2E => [0xCB, 0x93]
  | .res2H => [0xCB, 0x94]
  | .res2L => [0xCB, 0x95]
  | .res2MemHL => [0xCB, 0x96]
  | .res2A => [0xCB, 0x97]
  | .res3B => [0xCB, 0x98]
  | .res3C => [0xCB, 0x99]
  | .res3D => [0xCB, 0x9A]
  | .res3E => [0xCB, 0x9B]
  | .res3H => [0xCB, 0x9C]
  | .res3L => [0xCB, 0x9D]
  | .res3MemHL => [0xCB, 0x9E]
  | .res3A => [0xCB, 0x9F]
  | .res4B => [0xCB, 0xA0]
  | .res4C => [0xCB, 0xA1]
  | .res4D => [0xCB, 0xA2]
  | .res4E => [0xCB, 0xA3]
  | .res4H => [0xCB, 0xA4]
  | .res4L => [0xCB, 0xA5]
  | .res4MemHL => [0xCB, 0xA6]
  | .res4A => [0xCB, 0xA7]
  | .res5B => [0xCB, 0xA8]
  | .res5C => [0xCB, 0xA9]
  | .res5D => [0xCB, 0xAA]
  | .res5E => [0xCB, 0xAB]
  | .res5H => [0xCB, 0xAC]
  | .res5L => [0xCB, 0xAD]
  | .res5MemHL => [0xCB, 0xAE]
  | .res5A => [0xCB, 0xAF]
  | .res6B => [0xCB, 0xB0]
  | .res6C => [0xCB, 0xB1]
  | .res6D => [0xCB, 0xB2]
  | .res6E => [0xCB, 0xB3]
  | .res6H => [0xCB, 0xB4]
  | .res6L => [0xCB, 0xB5]
  | .res6MemHL => [0xCB, 0xB6]
  | .res6A => [0xCB, 0xB7]
  | .res7B => [0xCB, 0xB8]
  | .res7C => [0xCB, 0xB9]
  | .res7D => [0xCB, 0xBA]
  | .res7E => [0xCB, 0xBB]
  | .res7H => [0xCB, 0xBC]
  | .res7L => [0xCB, 0xBD]
  | .res7MemHL => [0xCB, 0xBE]
  | .res7A => [0xCB, 0xBF]
  | .set0B => [0xCB, 0xC0]
  | .set0C => [0xCB, 0xC1]
  | .set0D => [0xCB, 0xC2]
  | .set0E => [0xCB, 0xC3]
  | .set0H => [0xCB, 0xC4]
  | .set0L => [0xCB, 0xC5]
  | .set0MemHL => [0xCB, 0xC6]
  | .set0A => [0xCB, 0xC7]
  | .set1B => [0xCB, 0xC8]
  | .set1C => [0xCB, 0xC9]
  | .set1D => [0xCB, 0xCA]
  | .set1E => [0xCB, 0xCB]
  | .set1H => [0xCB, 0xCC]
  | .set1L => [0xCB, 0xCD]
  | .set1MemHL => [0xCB, 0xCE]
  | .set1A => [0xCB, 0xCF]
  | .set2B => [0xCB, 0xD0]
  | .set2C => [0xCB, 0xD1]
  | .set2D => [0xCB, 0xD2]
  | .set2E => [0xCB, 0xD3]
  | .set2H => [0xCB, 0xD4]
  | .set2L => [0xCB, 0xD5]
  | .set2MemHL => [0xCB, 0xD6]
  | .set2A => [0xCB, 0xD7]
  | .set3B => [0xCB, 0xD8]
  | .set3C => [0xCB, 0xD9]
  | .set3D => [0xCB, 0xDA]
  | .set3E => [0xCB, 0xDB]
  | .set3H => [0xCB, 0xDC]
  | .set3L => [0xCB, 0xDD]
  | .set3MemHL => [0xCB, 0xDE]
  | .set3A => [0xCB, 0xDF]
  | .set4B => [0xCB, 0xE0]
  | .set4C => [0xCB, 0xE1]
  | .set4D => [0xCB, 0xE2]
  | .set4E => [0xCB, 0xE3]
  | .set4H => [0xCB, 0xE4]
  | .set4L => [0xCB, 0xE5]
  | .set4MemHL => [0xCB, 0xE6]
  | .set4A => [0xCB, 0xE7]
  | .set5B => [0xCB, 0xE8]
  | .set5C => [0xCB, 0xE9]
  | .set5D => [0xCB, 0xEA]
  | .set5E => [0xCB, 0xEB]
  | .set5H => [0xCB, 0xEC]
  | .set5L => [0xCB, 0xED]
  | .set5MemHL => [0xCB, 0xEE]
  | .set5A => [0xCB, 0xEF]
  | .set6B => [0xCB, 0xF0]
  | .set6C => [0xCB, 0xF1]
  | .set6D => [0xCB, 0xF2]
  | .set6E => [0xCB, 0xF3]
  | .set6H => [0xCB, 0xF4]
  | .set6L => [0xCB, 0xF5]
  | .set6MemHL => [0xCB, 0xF6]
  | .set6A => [0xCB, 0xF7]
  | .set7B => [0xCB, 0xF8]
  | .set7C => [0xCB, 0xF9]
  | .set7D => [0xCB, 0xFA]
  | .set7E => [0xCB, 0xFB]
  | .set7H => [0xCB, 0xFC]
  | .set7L => [0xCB, 0xFD]
  | .set7MemHL => [0xCB, 0xFE]
  | .set7A => [0xCB, 0xFF]

/-- Length in bytes of an instruction (R120). -/
def Instr.length (i : Instr) : Nat := (encode i).length

/-- The stream bytes of a table word: `nbits` bits of `w`, every later byte 0. spec/opcode_table.json numbers
a prefixed row with 0xCB in bits 15..8 (its "match" is 0xCBxx), so a 16-bit word with that high byte is the
prefix followed by its low byte; any other word has its first byte in bits 7..0 (log 5). -/
def tableBytes (nbits w : Nat) : List Byte :=
  let v := w % 2 ^ nbits
  if nbits = 16 ∧ v / 256 = 0xCB then [0xCB, BitVec.ofNat 8 v, 0] else bytesLE v

/-- The instruction the decoder reads from a table word. -/
def decodeTableWord (nbits w : Nat) : Option Instr :=
  match tableBytes nbits w with
  | [b0, b1, b2] => decode3 b0 b1 b2
  | _ => none

end Sys2Proof
end

