-- ==== Sys2Proof/Config.lean ====
section
/-! DEFINITION. What is fixed for one machine: the Config of 10_state R45 with the parameters of
00_scope R7, and the constants of R7 that nothing may change. -/

namespace Sys2Proof

/-- The hardware revision a host asks for (D4). Only `dmg` and `mgb` are supported; `other` stands for
every value that construction refuses (70_reset_and_hazards R444). -/
inductive Revision where
  | dmg
  | mgb
  | other (name : String)
  deriving DecidableEq, Repr

/-- The cycle-timing mode a host asks for (D5). Only `instructionLockstep` is supported (R444). -/
inductive TimingMode where
  | instructionLockstep
  | other (name : String)
  deriving DecidableEq, Repr

/-- The three behaviours that 93_implementation_defined treats as `parameter`, with the defaults of
00_scope R7. -/
structure Params where
  /-- `DIV_PERIOD`: cycles per divider increment (60_exceptions R361). -/
  divPeriod : Nat := 4
  /-- `XFER_CYCLES`: length of pixel transfer; horizontal blank takes the rest of the line (60 R380). -/
  xferCycles : Nat := 172
  /-- `TIMA_RELOAD_DELAY`: length of the reload window (60 R363). -/
  timaReloadDelay : Nat := 4
  deriving DecidableEq, Repr

/-- The Config, "Supplied once at construction; never mutated by the core itself" (10_state R45). -/
structure Config where
  revision : Revision := .dmg
  timing : TimingMode := .instructionLockstep
  /-- The boot ROM's bytes, if one is configured (D6). -/
  bootRom : Option (List Byte) := none
  params : Params := {}
  deriving DecidableEq, Repr

namespace Config

/-- The default Config: DMG, instruction lockstep, no boot ROM (00_scope R7). -/
def default : Config := {}

/-- Whether a boot ROM is configured; it chooses the column of 10_state R49 and R50. -/
def hasBoot (c : Config) : Bool := c.bootRom.isSome

end Config

/-- `LINE_CYCLES`: dots per line (00_scope R7). -/
def lineCycles : Nat := 456
/-- `OAM_CYCLES`: dots of object scan (00_scope R7). -/
def oamCycles : Nat := 80
/-- Visible lines (00_scope R7). -/
def visibleLines : Nat := 144
/-- Lines per frame: 144 visible and 10 of vertical blank (00_scope R7). -/
def frameLines : Nat := 154
/-- Pixels of a visible line (00_scope R7). -/
def lineWidth : Nat := 160
/-- `FRAME_CYCLES` (00_scope R7). -/
def frameCycles : Nat := 70224
/-- `HALT_IDLE_CYCLES`, also the report of a Stopped or Locked step (00_scope R7, 60 R402). -/
def idleCycles : Nat := 4
/-- `DISPATCH_CYCLES` (00_scope R7, 60 R342). -/
def dispatchCycles : Nat := 20

/-- `TIMA_PERIOD[rate]` (00_scope R7, 10_state R35). -/
def timaPeriod (rate : BitVec 2) : Nat :=
  if rate = 0 then 1024 else if rate = 1 then 16 else if rate = 2 then 64 else 256

end Sys2Proof
end

