-- ==== Sys2Proof/Machine/Cells.lean ====
section
/-! DEFINITION. Sparse arrays: the memory arrays of 10_state R44 and the frame buffers of R37 as lists of
(index, value) pairs in one canonical form. An unlisted cell reads 0, the value R51 gives every array
after reset (log 7). For `w = 8` a cell is a `Host.Cell`. -/

namespace Sys2Proof

/-- A sparse array of `w`-bit cells. -/
abbrev Cells (w : Nat) := List (Nat × BitVec w)

variable {w : Nat}

/-- The value of cell `k`; an unlisted cell reads 0 (10_state R51). -/
def Cells.read (l : Cells w) (k : Nat) : BitVec w :=
  match l with
  | [] => 0
  | (j, u) :: rest => if j = k then u else Cells.read rest k

/-- Write `v` to cell `k`, keeping the indices rising; writing 0 removes the entry. -/
def Cells.write (l : Cells w) (k : Nat) (v : BitVec w) : Cells w :=
  match l with
  | [] => if v = 0 then [] else [(k, v)]
  | (j, u) :: rest =>
    if k < j then (if v = 0 then (j, u) :: rest else (k, v) :: (j, u) :: rest)
    else if k = j then (if v = 0 then rest else (k, v) :: rest)
    else (j, u) :: Cells.write rest k v

/-- The canonical form from index `lo` on, with every index below `hi`: indices strictly rising, no
listed value equal to what an unlisted cell reads as. -/
def Cells.wfIn (l : Cells w) (lo hi : Nat) : Bool :=
  match l with
  | [] => true
  | (k, v) :: rest => decide (lo ≤ k) && decide (k < hi) && (v != 0) && Cells.wfIn rest (k + 1) hi

/-- The cells of a dense list of values, from index `at_` on (0 is not listed). -/
def Cells.ofList (at_ : Nat) : List (BitVec w) → Cells w
  | [] => []
  | v :: vs => if v = 0 then Cells.ofList (at_ + 1) vs else (at_, v) :: Cells.ofList (at_ + 1) vs

/-- The first `n` cells as a dense list, from index `at_` on. -/
def Cells.toList (l : Cells w) (at_ : Nat) : Nat → List (BitVec w)
  | 0 => []
  | n + 1 => l.read at_ :: Cells.toList l (at_ + 1) n

end Sys2Proof
end

