-- ==== Sys2Proof/Machine/Parts.lean ====
section
/-! DEFINITION. The parts of the state (10_state.md), as plain data, and their power-on values (R49 to R52). -/

namespace Sys2Proof.Machine

/-- The CPU register file (10_state R20). -/
structure Regs where
  a : Byte
  f : Byte
  b : Byte
  c : Byte
  d : Byte
  e : Byte
  h : Byte
  l : Byte
  sp : Word
  pc : Word
  deriving DecidableEq, Repr

/-- The CPU run state `RUN` (10_state R29). -/
inductive RunState where
  | running
  | halted
  | stopped
  | locked
  deriving DecidableEq, Repr

/-- The timer's registers and hidden state (10_state R35, R36). -/
structure Timer where
  div : Byte
  /-- DIV_SUB: cycles toward the next DIV increment. -/
  divSub : Nat
  tima : Byte
  tma : Byte
  /-- TAC bits 2..0: bit 2 enable, bits 1..0 rate. -/
  tac : BitVec 3
  /-- TIMA_SUB: enabled cycles toward the next TIMA increment. -/
  timaSub : Nat
  /-- RELOAD_PENDING: cycles left of the reload window, 0 when no overflow is in flight. -/
  reloadPending : Nat
  deriving DecidableEq, Repr

/-- The PPU's mode (10_state R37). -/
inductive PpuMode where
  /-- mode 0 -/
  | hblank
  /-- mode 1 -/
  | vblank
  /-- mode 2 -/
  | oamScan
  /-- mode 3 -/
  | transfer
  deriving DecidableEq, Repr

/-- The PPU's registers (10_state R38 to R40) and hidden state (R37). -/
structure Ppu where
  lcdc : Byte
  /-- STAT bits 6..3, the interrupt selects: bit 3 LYC=LY, bit 2 mode 2, bit 1 mode 1, bit 0 mode 0. -/
  statSel : BitVec 4
  scy : Byte
  scx : Byte
  ly : Byte
  lyc : Byte
  dma : Byte
  bgp : Byte
  obp0 : Byte
  obp1 : Byte
  wy : Byte
  wx : Byte
  dot : Nat
  mode : PpuMode
  winLine : Nat
  statLine : Bool
  vblankEvent : Bool
  /-- FB_LIVE: cell `160 * y + x` is the shade of column x of row y (60 R393). -/
  fbLive : Cells 2
  /-- FB_FRAME, the published snapshot, laid out as FB_LIVE. -/
  fbFrame : Cells 2
  deriving DecidableEq, Repr

/-- The eight buttons, true = pressed (10_state R41). -/
structure Buttons where
  right : Bool := false
  left : Bool := false
  up : Bool := false
  down : Bool := false
  a : Bool := false
  b : Bool := false
  select : Bool := false
  start : Bool := false
  deriving DecidableEq, Repr

/-- The joypad (10_state R41). -/
structure Joypad where
  buttons : Buttons
  /-- P1 bits 5..4: bit 1 is P1.5 (action keys), bit 0 is P1.4 (direction keys), 0 selects. -/
  p1Sel : BitVec 2
  /-- The last computed P1[3:0]. -/
  p1LowPrev : BitVec 4
  deriving DecidableEq, Repr

/-- The bank controller of the loaded cartridge with its registers (20_memory R94 to R98). -/
inductive Mbc where
  | noController
  | mbc1 (ramEn : Bool) (bank1 : BitVec 5) (bank2 : BitVec 2) (mode : Bool)
  | mbc2 (ramEn : Bool) (romb : BitVec 4)
  | mbc3 (ramEn : Bool) (romb : BitVec 7) (ramb : Byte)
  | mbc5 (ramEn : Bool) (romb : BitVec 9) (ramb : BitVec 4)
  deriving DecidableEq, Repr

/-- A loaded cartridge: image, controller and external RAM (10_state R44, 20_memory R91, R92). -/
structure Cart where
  mbc : Mbc
  /-- NROM, the number of 16 KiB ROM banks. -/
  nrom : Nat
  /-- RAM_SIZE in bytes; 512 for MBC2. -/
  ramSize : Nat
  rom : Cells 8
  /-- External RAM; for MBC2 each cell holds a 4-bit value. -/
  xram : Cells 8
  deriving DecidableEq, Repr

/-- The backing arrays (10_state R44); `cart` is `none` before any image is loaded (70 R431). -/
structure Memory where
  cart : Option Cart
  vram : Cells 8
  wram : Cells 8
  oam : Cells 8
  hram : Cells 8
  apu : Cells 8
  deriving DecidableEq, Repr

/-- A cartridge's arrays are canonical and within their sizes, and the cells of MBC2's 512 have four bits
(10_state R44, 20_memory R96). -/
def Cart.wf (k : Cart) : Bool :=
  k.rom.wfIn 0 (k.nrom * 0x4000) && k.xram.wfIn 0 k.ramSize
    && match k.mbc with
      | .mbc2 _ _ => k.ramSize == 512 && k.xram.all fun c => decide (c.2.toNat < 16)
      | _ => true

/-- Every array is in its canonical form and within its size (10_state R44). -/
def Memory.wf (m : Memory) : Bool :=
  (match m.cart with
    | none => true
    | some k => k.wf)
    && m.vram.wfIn 0 8192 && m.wram.wfIn 0 8192 && m.oam.wfIn 0 160 && m.hram.wfIn 0 127
    && m.apu.wfIn 0 48

/-- A controller's power-on registers (10_state R52); the kind of controller stays. -/
def Mbc.powerOn : Mbc → Mbc
  | .noController => .noController
  | .mbc1 _ _ _ _ => .mbc1 false 1 0 false
  | .mbc2 _ _ => .mbc2 false 1
  | .mbc3 _ _ _ => .mbc3 false 1 0
  | .mbc5 _ _ _ => .mbc5 false 1 0

/-- CPU reset values (10_state R49): without a boot ROM A depends on the revision. -/
def Regs.powerOn (c : Config) : Regs :=
  match c.hasBoot with
  | false =>
    { a := if c.revision = .mgb then 0xFF else 0x01, f := 0xB0, b := 0x00, c := 0x13, d := 0x00
      e := 0xD8, h := 0x01, l := 0x4D, sp := 0xFFFE, pc := 0x0100 }
  | true => { a := 0, f := 0, b := 0, c := 0, d := 0, e := 0, h := 0, l := 0, sp := 0, pc := 0 }

/-- Timer reset values (10_state R50). -/
def Timer.powerOn (c : Config) : Timer :=
  { div := if c.hasBoot then 0x00 else 0xAB, divSub := 0, tima := 0, tma := 0, tac := 0, timaSub := 0
    reloadPending := 0 }

/-- PPU reset values (10_state R50, R51). -/
def Ppu.powerOn (c : Config) : Ppu :=
  { lcdc := if c.hasBoot then 0x00 else 0x91, statSel := 0, scy := 0, scx := 0, ly := 0, lyc := 0
    dma := 0xFF, bgp := if c.hasBoot then 0x00 else 0xFC, obp0 := 0xFF, obp1 := 0xFF, wy := 0, wx := 0
    dot := 0, mode := if c.hasBoot then .hblank else .oamScan, winLine := 0, statLine := false
    vblankEvent := false, fbLive := [], fbFrame := [] }

/-- Joypad reset values (10_state R50). -/
def Joypad.powerOn : Joypad := { buttons := {}, p1Sel := 0, p1LowPrev := 0xF }

/-- The reset value of IF (10_state R50). -/
def ifPowerOn (c : Config) : BitVec 5 := if c.hasBoot then 0 else 1

/-- Memory at reset (10_state R51): the five arrays of the console all 0x00; the cartridge keeps its image,
sizes and external RAM, its controller's registers go to their power-on values (R52, 70 R430). -/
def Memory.powerOn (cart : Option Cart) : Memory :=
  { cart := cart.map (fun k => { k with mbc := k.mbc.powerOn })
    vram := [], wram := [], oam := [], hram := [], apu := [] }

end Sys2Proof.Machine
end

