-- ==== Sys2Proof/Machine/Cartridge.lean ====
section
/-! DEFINITION. Cartridges: the bank controllers' registers and mapping (20_memory R94 to R98). Bank numbers and
array indices are counts, not bus words. -/

namespace Sys2Proof.Machine

/-- The RAM-enable test of every controller: the low nibble written is 0xA (20_memory R95 to R98, D13). -/
def ramEnable (v : Byte) : Bool := v.extractLsb' 0 4 == 0xA#4

/-- A bank number of which 0 is stored as 1 (R95, R96, R97). -/
def zeroToOne {w : Nat} (b : BitVec w) : BitVec w := if b = 0 then 1 else b

/-- A write of `v` to `addr` in 0x0000..0x7FFF: the controller latches a register or drops it (R68). -/
def Mbc.write (m : Mbc) (addr : Word) (v : Byte) : Mbc :=
  let a := addr.toNat
  match m with
  | .noController => .noController
  | .mbc1 en b1 b2 md =>
    if a < 0x2000 then .mbc1 (ramEnable v) b1 b2 md
    else if a < 0x4000 then .mbc1 en (zeroToOne (v.extractLsb' 0 5)) b2 md
    else if a < 0x6000 then .mbc1 en b1 (v.extractLsb' 0 2) md
    else .mbc1 en b1 b2 (bitOf v 0)
  | .mbc2 en rb =>
    if a < 0x4000 then
      if addr.getLsbD 8 then .mbc2 en (zeroToOne (v.extractLsb' 0 4)) else .mbc2 (ramEnable v) rb
    else .mbc2 en rb
  | .mbc3 en rb ra =>
    if a < 0x2000 then .mbc3 (ramEnable v) rb ra
    else if a < 0x4000 then .mbc3 en (zeroToOne (v.extractLsb' 0 7)) ra
    else if a < 0x6000 then .mbc3 en rb v
    else .mbc3 en rb ra
  | .mbc5 en rb ra =>
    if a < 0x2000 then .mbc5 (ramEnable v) rb ra
    else if a < 0x3000 then .mbc5 en (rb.extractLsb' 8 1 ++ v) ra
    else if a < 0x4000 then .mbc5 en (v.extractLsb' 0 1 ++ rb.extractLsb' 0 8) ra
    else if a < 0x6000 then .mbc5 en rb (v.extractLsb' 0 4)
    else .mbc5 en rb ra

/-- `LOW_BANK` before the reduction by NROM (R94 to R98): the bank at 0x0000..0x3FFF. -/
def Mbc.lowBank : Mbc → Nat
  | .noController => 0
  | .mbc1 _ _ b2 md => if md then b2.toNat * 32 else 0
  | .mbc2 _ _ => 0
  | .mbc3 _ _ _ => 0
  | .mbc5 _ _ _ => 0

/-- `HIGH_BANK` before the reduction by NROM (R94 to R98): the bank at 0x4000..0x7FFF. -/
def Mbc.highBank : Mbc → Nat
  | .noController => 1
  | .mbc1 _ b1 b2 _ => b2.toNat * 32 + b1.toNat
  | .mbc2 _ rb => rb.toNat
  | .mbc3 _ rb _ => rb.toNat
  | .mbc5 _ rb _ => rb.toNat

/-- The RAM bank the controller maps, before the reduction by NRAM; `none` where its registers keep the
external RAM off (R94 to R98). -/
def Mbc.ramBank : Mbc → Option Nat
  | .noController => some 0
  | .mbc1 en _ b2 md => if en then some (if md then b2.toNat else 0) else none
  | .mbc2 en _ => if en then some 0 else none
  | .mbc3 en _ ra => if en && decide (ra.toNat ≤ 7) then some ra.toNat else none
  | .mbc5 en _ ra => if en then some ra.toNat else none

namespace Cart

/-- NRAM = max(1, RAM_SIZE / 8192) (R92). -/
def nram (k : Cart) : Nat := max 1 (k.ramSize / 8192)

/-- The index into the image that `addr` of 0x0000..0x7FFF reads (R67, R94). -/
def romIndex (k : Cart) (addr : Word) : Nat :=
  let bank := (if addr.toNat < 0x4000 then k.mbc.lowBank else k.mbc.highBank) % k.nrom
  bank * 0x4000 + addr.toNat % 0x4000

/-- A ROM read (R67). -/
def readRom (k : Cart) (addr : Word) : Byte := k.rom.read (k.romIndex addr)

/-- The external RAM index that `addr` of 0xA000..0xBFFF reaches, `none` where the RAM is absent or not
enabled (R70, R94 to R98). The 512 cells of MBC2 repeat through the window (R96). -/
def ramIndex (k : Cart) (addr : Word) : Option Nat :=
  if k.ramSize = 0 then none
  else
    match k.mbc with
    | .mbc2 en _ => if en then some (addr.toNat % 512) else none
    | m => m.ramBank.map fun bank => (bank % k.nram * 0x2000 + addr.toNat % 0x2000) % k.ramSize

/-- What a cell of external RAM reads as: MBC2 cells have four bits, the upper four read 1 (R96). -/
def ramReadValue (m : Mbc) (cell : Byte) : Byte :=
  match m with
  | .mbc2 _ _ => 0xF0 ||| cell
  | _ => cell

/-- What a byte is stored as: MBC2 keeps its low nibble (R96). -/
def ramStoreValue (m : Mbc) (v : Byte) : Byte :=
  match m with
  | .mbc2 _ _ => v &&& 0x0F
  | _ => v

/-- A read of the external RAM window (R70): 0xFF where nothing is mapped (D8). -/
def readRam (k : Cart) (addr : Word) : Byte :=
  match k.ramIndex addr with
  | none => 0xFF
  | some i => ramReadValue k.mbc (k.xram.read i)

/-- A write to the external RAM window (R70): ignored where nothing is mapped. -/
def writeRam (k : Cart) (addr : Word) (v : Byte) : Cart :=
  match k.ramIndex addr with
  | none => k
  | some i => { k with xram := k.xram.write i (ramStoreValue k.mbc v) }

/-- A write to the ROM range: it never changes ROM (R68). -/
def writeRom (k : Cart) (addr : Word) (v : Byte) : Cart := { k with mbc := k.mbc.write addr v }

end Cart

end Sys2Proof.Machine
end

