-- ==== Sys2Proof/Machine/State.lean ====
section
/-! DEFINITION. The machine's state (10_state.md), as plain data, and its reset (R48 to R52); the parts
and their power-on values are in Machine/Parts.lean. -/

namespace Sys2Proof.Machine

/-- Reasons a step can stop with a fault: there are none. "All other runtime conditions inside the
execution loop are defined, not erroneous" (60_exceptions R330, 00_scope R19); no step fails (log 10). -/
inductive Fault where
  deriving DecidableEq, Repr

/-- Reasons a step can be refused. -/
inductive Refusal where
  /-- Raised by an arm of `exec` that has no meaning yet, under the table's mnemonic. Safe: it stops.
  In this model no arm raises it. -/
  | notModelled (mnemonic : String)
  deriving DecidableEq, Repr

/-- The whole state between steps (10_state R31). -/
structure State where
  regs : Regs
  ime : Bool
  eiDelay : Nat
  run : RunState
  haltBug : Bool
  /-- IF bits 4..0 (10_state R33). -/
  ifReg : BitVec 5
  ie : Byte
  timer : Timer
  ppu : Ppu
  joypad : Joypad
  sb : Byte
  /-- SC; only bits 7 and 0 are stored (10_state R42). -/
  sc : Byte
  bootMapped : Bool
  mem : Memory
  /-- The Config, carried unchanged (10_state R45, log 1). -/
  cfg : Config
  /-- The cycles the last step reported (60_exceptions R402); the model's own field (log 2). -/
  cycles : Nat
  deriving DecidableEq, Repr

/-- What a step, and each instruction's meaning, answers. -/
abbrev Result := Host.Outcome State Fault Refusal

/-- The reset state for a Config and a cartridge (10_state R48 to R52). The cartridge's image, sizes and
external RAM stay as they are (70 R430); its controller's registers go to their power-on values. -/
def State.powerOn (c : Config) (cart : Option Cart) : State :=
  { regs := Regs.powerOn c, ime := false, eiDelay := 0, run := .running, haltBug := false
    ifReg := ifPowerOn c, ie := 0, timer := Timer.powerOn c, ppu := Ppu.powerOn c
    joypad := Joypad.powerOn, sb := 0, sc := 0
    bootMapped := c.hasBoot
    mem := Memory.powerOn cart
    cfg := c, cycles := 0 }

/-- The machine right after construction with the default Config, which is its reset state: no image is
loaded yet (70 R431, log 3). -/
def State.reset : State := State.powerOn Config.default none

end Sys2Proof.Machine
end

