-- ==== Sys2Proof/Machine/Interrupt.lean ====
section
/-! DEFINITION. The interrupt controller's requests and priorities (10_state R32 to R34, 60_exceptions R331 to R338). -/

namespace Sys2Proof.Machine

/-- The five sources, in priority order (10_state R32). -/
inductive Irq where
  | vblank
  | stat
  | timer
  | serial
  | joypad
  deriving DecidableEq, Repr

/-- The request and enable bit of a source (10_state R32). -/
def Irq.bit : Irq → Nat
  | .vblank => 0
  | .stat => 1
  | .timer => 2
  | .serial => 3
  | .joypad => 4

/-- The service address of a source, 0x40 + 8k (10_state R32). -/
def Irq.vector (k : Irq) : Word := BitVec.ofNat 16 (0x40 + 8 * k.bit)

/-- `request(k)`: `IF[k] <- 1` (60 R333). -/
def State.request (s : State) (k : Irq) : State := { s with ifReg := s.ifReg ||| (1#5 <<< k.bit) }

/-- `IF[k] <- 0`. -/
def State.clearRequest (s : State) (k : Irq) : State :=
  { s with ifReg := s.ifReg &&& ~~~(1#5 <<< k.bit) }

/-- `IE & IF & 0x1F` (60 R332). -/
def State.pendingMask (s : State) : BitVec 5 := s.ie.extractLsb' 0 5 &&& s.ifReg

/-- The source of the lowest set bit of a pending mask (60 R332). -/
def lowestSource (p : BitVec 5) : Option Irq :=
  if p.getLsbD 0 then some .vblank
  else if p.getLsbD 1 then some .stat
  else if p.getLsbD 2 then some .timer
  else if p.getLsbD 3 then some .serial
  else if p.getLsbD 4 then some .joypad
  else none

/-- `pending()`: the highest-priority source both requested and enabled; it does not read IME (60 R332). -/
def State.pending (s : State) : Option Irq := lowestSource s.pendingMask

end Sys2Proof.Machine
end

