-- ==== Sys2Proof/Machine/Joypad.lean ====
section
/-! DEFINITION. The joypad register and its interrupt (20_memory R81, 60_exceptions R394). -/

namespace Sys2Proof.Machine

/-- The direction keys, 1 = pressed: Right, Left, Up, Down from bit 0 up (20_memory R81). -/
def Buttons.directions (b : Buttons) : BitVec 4 :=
  BitVec.ofBool b.down ++ BitVec.ofBool b.up ++ BitVec.ofBool b.left ++ BitVec.ofBool b.right

/-- The action keys, 1 = pressed: A, B, Select, Start from bit 0 up (20_memory R81). -/
def Buttons.actions (b : Buttons) : BitVec 4 :=
  BitVec.ofBool b.start ++ BitVec.ofBool b.select ++ BitVec.ofBool b.b ++ BitVec.ofBool b.a

/-- `JoyLow()`: P1[3:0], a line reads 0 where a key of a selected row is pressed (20_memory R81). -/
def Joypad.low (j : Joypad) : BitVec 4 :=
  ~~~((if j.p1Sel.getLsbD 0 then 0 else j.buttons.directions)
    ||| (if j.p1Sel.getLsbD 1 then 0 else j.buttons.actions))

/-- The read value of P1 (20_memory R81). -/
def Joypad.p1 (j : Joypad) : Byte := 0b11#2 ++ j.p1Sel ++ j.low

/-- `JoypadCheck()`: a request on each falling edge of an input line (60 R394). -/
def State.joypadCheck (s : State) : State :=
  let low := s.joypad.low
  let s' := if s.joypad.p1LowPrev &&& ~~~low = 0 then s else s.request .joypad
  { s' with joypad := { s.joypad with p1LowPrev := low } }

/-- A write to P1: `P1_SEL <- v[5:4]`, then the edge check (20_memory R75). -/
def State.writeP1 (s : State) (v : Byte) : State :=
  State.joypadCheck { s with joypad := { s.joypad with p1Sel := v.extractLsb' 4 2 } }

end Sys2Proof.Machine
end

