-- ==== Sys2Proof/Machine/Render.lean ====
section
/-! DEFINITION. The rendering of one line (60_exceptions R388 to R392): functions of the PPU's registers and of
VRAM and OAM, read directly as arrays (20_memory R107). Pixel positions, tile indices and offsets into VRAM
are counts. -/

namespace Sys2Proof.Machine

/-- LCDC bit 7 (10_state R38). -/
def Ppu.lcdOn (p : Ppu) : Bool := bitOf p.lcdc 7

/-- The two bits of plane bytes `lo`, `hi` at column `x` of a tile row, leftmost column first (R388). -/
def planePixel (lo hi : Byte) (x : Nat) : BitVec 2 :=
  BitVec.ofBool (bitOf hi (7 - x)) ++ BitVec.ofBool (bitOf lo (7 - x))

/-- The shade a palette register gives colour `c` (10_state R40): `(pal >> 2c) & 3`. -/
def paletteShade (pal : Byte) (c : BitVec 2) : BitVec 2 := pal.extractLsb' (2 * c.toNat) 2

/-- The VRAM offset of a background or window tile's data (10_state R38 bit 4, R388): unsigned from 0x8000,
or signed from 0x9000. -/
def tileBase (p : Ppu) (idx : Byte) : Nat :=
  if bitOf p.lcdc 4 then idx.toNat * 16
  else if idx.toNat < 128 then 0x1000 + idx.toNat * 16
  else idx.toNat * 16

/-- `TilePixel(map, x, y)` (R388); `map` is an offset into VRAM: 0x1800 or 0x1C00. -/
def tilePixel (p : Ppu) (vram : Cells 8) (map x y : Nat) : BitVec 2 :=
  let idx := vram.read (map + y / 8 * 32 + x / 8)
  let base := tileBase p idx + 2 * (y % 8)
  planePixel (vram.read base) (vram.read (base + 1)) (x % 8)

/-- The tile map an LCDC bit chooses: 0x9C00 or 0x9800, as a VRAM offset (10_state R38). -/
def tileMap (sel : Bool) : Nat := if sel then 0x1C00 else 0x1800

/-- Whether the window covers column `px` of line `ly` (R388, R389). -/
def windowCovers (p : Ppu) (ly px : Nat) : Bool :=
  bitOf p.lcdc 5 && decide (p.wy.toNat ≤ ly) && decide (p.wx.toNat ≤ 166)
    && decide (p.wx.toNat ≤ px + 7)

/-- The background or window colour index of a pixel; 0 where LCDC bit 0 is off (R388). -/
def bgColour (p : Ppu) (vram : Cells 8) (ly px : Nat) : BitVec 2 :=
  if bitOf p.lcdc 0 then
    if windowCovers p ly px then
      tilePixel p vram (tileMap (bitOf p.lcdc 6)) (px + 7 - p.wx.toNat) p.winLine
    else
      tilePixel p vram (tileMap (bitOf p.lcdc 3)) ((p.scx.toNat + px) % 256) ((p.scy.toNat + ly) % 256)
  else 0

/-- An OAM entry (R390). -/
structure Obj where
  index : Nat
  y : Nat
  x : Nat
  tile : Byte
  attr : Byte
  deriving DecidableEq, Repr

/-- Object height (10_state R38 bit 2). -/
def objHeight (p : Ppu) : Nat := if bitOf p.lcdc 2 then 16 else 8

/-- OAM entry `i` (R390). -/
def oamEntry (oam : Cells 8) (i : Nat) : Obj :=
  { index := i, y := (oam.read (4 * i)).toNat, x := (oam.read (4 * i + 1)).toNat
    tile := oam.read (4 * i + 2), attr := oam.read (4 * i + 3) }

/-- Whether an object's rows cover line `ly` (R390). -/
def Obj.covers (o : Obj) (h ly : Nat) : Bool :=
  decide (o.y ≤ ly + 16) && decide (ly + 16 < o.y + h)

/-- `SelectObjects(ly)`: the first ten objects in OAM order that cover the line (R390). -/
def selectObjects (p : Ppu) (oam : Cells 8) (ly : Nat) : List Obj :=
  (((List.range 40).map (oamEntry oam)).filter fun o => o.covers (objHeight p) ly).take 10

/-- Insert an object by ascending X, after those of equal X, so that OAM order breaks ties (R391). -/
def insertByX (o : Obj) : List Obj → List Obj
  | [] => [o]
  | q :: qs => if o.x < q.x then o :: q :: qs else q :: insertByX o qs

/-- Objects in drawing priority: X ascending, then OAM index ascending (R391). -/
def byPriority (objs : List Obj) : List Obj := objs.foldl (fun acc o => insertByX o acc) []

/-- The colour index of an object at a column it covers, on line `ly` (R391). -/
def Obj.colour (o : Obj) (h : Nat) (vram : Cells 8) (px ly : Nat) : BitVec 2 :=
  let row0 := ly + 16 - o.y
  let row := if bitOf o.attr 6 then h - 1 - row0 else row0
  let col0 := px + 8 - o.x
  let col := if bitOf o.attr 5 then 7 - col0 else col0
  let t := if h = 16 then (o.tile &&& 0xFE).toNat else o.tile.toNat
  let addr := t * 16 + 2 * row
  planePixel (vram.read addr) (vram.read (addr + 1)) col

/-- Whether an object covers column `px`: `X - 8 <= px < X` (R391). -/
def Obj.coversColumn (o : Obj) (px : Nat) : Bool := decide (o.x ≤ px + 8) && decide (px < o.x)

/-- `ObjectPixel(sel, px, ly)` over objects in priority order: the first that covers the column with a
colour other than 0 (R391). -/
def objectPixel (sel : List Obj) (h : Nat) (vram : Cells 8) (px ly : Nat) : Option (Obj × BitVec 2) :=
  match sel with
  | [] => none
  | o :: rest =>
    if o.coversColumn px && o.colour h vram px ly != 0 then some (o, o.colour h vram px ly)
    else objectPixel rest h vram px ly

/-- The shade of pixel `px` of line `ly`, given the line's objects in priority order (R388). -/
def pixelShade (p : Ppu) (vram : Cells 8) (sel : List Obj) (ly px : Nat) : BitVec 2 :=
  let bgc := bgColour p vram ly px
  let bg := paletteShade p.bgp bgc
  if bitOf p.lcdc 1 then
    match objectPixel sel (objHeight p) vram px ly with
    | none => bg
    | some (o, c) =>
      if bitOf o.attr 7 && bgc != 0 then bg
      else paletteShade (if bitOf o.attr 4 then p.obp1 else p.obp0) c
  else bg

/-- Write row `ly` of a frame buffer, from column `px` on, for `n` columns. -/
def writeRow (shade : Nat → BitVec 2) (ly px : Nat) : Nat → Cells 2 → Cells 2
  | 0, fb => fb
  | n + 1, fb => writeRow shade ly (px + 1) n (Cells.write fb (ly * lineWidth + px) (shade px))

/-- Whether at least one pixel of the line was drawn from the window (R388, R389). -/
def windowUsed (p : Ppu) (ly : Nat) : Bool :=
  bitOf p.lcdc 0 && (List.range lineWidth).any (windowCovers p ly)

/-- `RenderLine(ly)` (R388): row `ly` of FB_LIVE, and the window's line counter. -/
def Ppu.renderLine (p : Ppu) (vram oam : Cells 8) (ly : Nat) : Ppu :=
  let sel := byPriority (selectObjects p oam ly)
  { p with
    fbLive := writeRow (pixelShade p vram sel ly) ly 0 lineWidth p.fbLive
    winLine := if windowUsed p ly then p.winLine + 1 else p.winLine }

end Sys2Proof.Machine
end

