-- ==== Sys2Proof/Machine/PpuUnit.lean ====
section
/-! DEFINITION. The PPU's scanline and mode state machine (60_exceptions R380 to R387). -/

namespace Sys2Proof.Machine

/-- The mode number STAT shows (10_state R37, R39). -/
def PpuMode.number : PpuMode → BitVec 2
  | .hblank => 0
  | .vblank => 1
  | .oamScan => 2
  | .transfer => 3

/-- The mode of a position in the frame (R380). -/
def modeAt (p : Params) (ly : Byte) (dot : Nat) : PpuMode :=
  if visibleLines ≤ ly.toNat then .vblank
  else if dot < oamCycles then .oamScan
  else if dot < oamCycles + p.xferCycles then .transfer
  else .hblank

namespace Ppu

/-- LY/LYC coincidence (R385). -/
def coincidence (p : Ppu) : Bool := p.ly == p.lyc

/-- The OR of the selected STAT conditions (R386). -/
def statLevel (p : Ppu) : Bool :=
  (p.statSel.getLsbD 3 && p.coincidence)
    || (p.statSel.getLsbD 0 && p.mode == .hblank)
    || (p.statSel.getLsbD 1 && p.mode == .vblank)
    || (p.statSel.getLsbD 2 && p.mode == .oamScan)

/-- The read value of STAT (10_state R39): the mode bits are 0 while the LCD is off. -/
def stat (p : Ppu) : Byte :=
  1#1 ++ p.statSel ++ BitVec.ofBool p.coincidence ++ (if p.lcdOn then p.mode.number else 0)

/-- One dot further: the next line after 456 dots, the next frame after 154 lines (R380). -/
def nextDot (p : Ppu) : Ppu :=
  if p.dot + 1 = lineCycles then
    if p.ly + 1 = BitVec.ofNat 8 frameLines then { p with dot := 0, ly := 0, winLine := 0 }
    else { p with dot := 0, ly := p.ly + 1 }
  else { p with dot := p.dot + 1 }

end Ppu

/-- `UpdateStatLine()`: a request on the rising edge of the STAT line (R386). -/
def State.updateStatLine (s : State) : State :=
  let line := s.ppu.statLevel
  let s' := if line && !s.ppu.statLine then s.request .stat else s
  { s' with ppu := { s.ppu with statLine := line } }

/-- `EnterVBlank()`: request, snapshot and the event for `run_frame` (R383). -/
def State.enterVBlank (s : State) : State :=
  let s' := s.request .vblank
  { s' with ppu := { s.ppu with fbFrame := s.ppu.fbLive, vblankEvent := true } }

/-- `RenderLine(LY)` on the machine's arrays (R388). -/
def State.renderLine (s : State) : State :=
  { s with ppu := s.ppu.renderLine s.mem.vram s.mem.oam s.ppu.ly.toNat }

/-- A change of mode (R380): pixel transfer renders the line, vertical blank publishes the frame. -/
def State.enterMode (s : State) (m : PpuMode) : State :=
  let s' := { s with ppu := { s.ppu with mode := m } }
  match m with
  | .transfer => s'.renderLine
  | .vblank => s'.enterVBlank
  | .hblank => s'
  | .oamScan => s'

/-- The mode change of a cycle, if there is one (R380). -/
def State.updateMode (s : State) : State :=
  let m := modeAt s.cfg.params s.ppu.ly s.ppu.dot
  if m = s.ppu.mode then s else s.enterMode m

/-- `PpuTick()` (R380): nothing while the LCD is off (R381). -/
def State.ppuTick (s : State) : State :=
  if s.ppu.lcdOn then (State.updateMode { s with ppu := s.ppu.nextDot }).updateStatLine else s

/-- `advance(n)` of the PPU (R380). -/
def State.ppuAdvance (s : State) : Nat → State
  | 0 => s
  | n + 1 => State.ppuAdvance s.ppuTick n

/-- The STAT line's re-evaluation after a STAT or LYC write, while the LCD is on (R387). -/
def State.restat (s : State) : State := if s.ppu.lcdOn then s.updateStatLine else s

/-- A write to LCDC (20_memory R75): switching the LCD off (R381) or on (R382), or only storing. -/
def State.writeLcdc (s : State) (v : Byte) : State :=
  let p := { s.ppu with lcdc := v }
  match s.ppu.lcdOn, bitOf v 7 with
  | true, false =>
    { s with ppu := { p with ly := 0, dot := 0, mode := .hblank, statLine := false } }
  | false, true =>
    State.updateStatLine { s with ppu := { p with ly := 0, dot := 0, mode := .oamScan, winLine := 0 } }
  | true, true => { s with ppu := p }
  | false, false => { s with ppu := p }

/-- A write to STAT: `STAT_SEL <- v[6:3]` (10_state R39), then R387. -/
def State.writeStat (s : State) (v : Byte) : State :=
  State.restat { s with ppu := { s.ppu with statSel := v.extractLsb' 3 4 } }

/-- A write to LYC, then R387. -/
def State.writeLyc (s : State) (v : Byte) : State :=
  State.restat { s with ppu := { s.ppu with lyc := v } }

end Sys2Proof.Machine
end

