-- ==== Sys2Proof/Machine/TimerUnit.lean ====
section
/-! DEFINITION. The timer unit (60_exceptions R360 to R368). -/

namespace Sys2Proof.Machine

namespace Timer

/-- The divider's part of a cycle (R360, R361). -/
def tickDiv (p : Params) (t : Timer) : Timer :=
  if t.divSub + 1 = p.divPeriod then { t with divSub := 0, div := t.div + 1 }
  else { t with divSub := t.divSub + 1 }

/-- Whether this cycle ends a reload window (R364). -/
def reloadsNow (t : Timer) : Bool := t.reloadPending == 1

/-- The reload window's part of a cycle (R360, R364). -/
def tickReload (t : Timer) : Timer :=
  if t.reloadPending = 0 then t
  else if t.reloadPending = 1 then { t with reloadPending := 0, tima := t.tma }
  else { t with reloadPending := t.reloadPending - 1 }

/-- TAC's enable bit (10_state R35). -/
def enabled (t : Timer) : Bool := t.tac.getLsbD 2

/-- The period TAC's rate field selects (10_state R35). -/
def period (t : Timer) : Nat := timaPeriod (t.tac.extractLsb' 0 2)

/-- One increment of TIMA, which starts the reload window on overflow (R363). -/
def countTima (p : Params) (t : Timer) : Timer :=
  if t.tima = 0xFF then { t with tima := 0, reloadPending := p.timaReloadDelay }
  else { t with tima := t.tima + 1 }

/-- The programmable counter's part of a cycle (R360, R362, R368). -/
def tickTima (p : Params) (t : Timer) : Timer :=
  if t.enabled then
    if t.period ≤ t.timaSub + 1 then countTima p { t with timaSub := 0 }
    else { t with timaSub := t.timaSub + 1 }
  else t

/-- The registers after one cycle, in the order of R360: divider, reload window, programmable counter. -/
def tick (p : Params) (t : Timer) : Timer := (t.tickDiv p).tickReload.tickTima p

/-- DIV write, any value (R365); STOP resets the divider the same way (45_system R312). -/
def resetDiv (t : Timer) : Timer := { t with div := 0, divSub := 0 }

/-- TIMA write: it cancels a reload in flight (R366). -/
def writeTima (t : Timer) (v : Byte) : Timer := { t with tima := v, reloadPending := 0 }

/-- TMA write (R367). -/
def writeTma (t : Timer) (v : Byte) : Timer := { t with tma := v }

/-- TAC write: bits 2..0; TIMA_SUB is kept (R368). -/
def writeTac (t : Timer) (v : Byte) : Timer := { t with tac := v.extractLsb' 0 3 }

end Timer

/-- `TimerTick()` (R360): one cycle of the timer, with the interrupt request at the end of a reload window. -/
def State.timerTick (s : State) : State :=
  let s' := if s.timer.reloadsNow then s.request .timer else s
  { s' with timer := s.timer.tick s.cfg.params }

/-- `advance(n)` of the timer unit (R360). -/
def State.timerAdvance (s : State) : Nat → State
  | 0 => s
  | n + 1 => State.timerAdvance s.timerTick n

end Sys2Proof.Machine
end

