-- ==== Sys2Proof/Machine/Bus.lean ====
section
/-! DEFINITION. The memory bus (20_memory): the map of R64, the I/O window of R75, and the two primitives
MemRead and MemWrite of 00_scope R12. Every read answers a byte and changes nothing (R61, R77), every write
completes (R61). -/

namespace Sys2Proof.Machine

/-- The backing region of an address (20_memory R64), with the offset into its array. -/
inductive Region where
  /-- 0x0000..0x7FFF: boot overlay or ROM; writes go to the bank controller. -/
  | rom
  | vram (off : Nat)
  /-- 0xA000..0xBFFF: the external RAM window. -/
  | xram
  /-- 0xC000..0xDFFF and its echo 0xE000..0xFDFF. -/
  | wram (off : Nat)
  | oam (off : Nat)
  /-- 0xFEA0..0xFEFF. -/
  | unusable
  /-- 0xFF00..0xFF7F, with the offset from 0xFF00. -/
  | io (off : Nat)
  | hram (off : Nat)
  /-- 0xFFFF. -/
  | ie
  deriving DecidableEq, Repr

/-- The region of an address: every address resolves to exactly one (20_memory R60, R64). -/
def regionOf (addr : Word) : Region :=
  let a := addr.toNat
  if a < 0x8000 then .rom
  else if a < 0xA000 then .vram (a - 0x8000)
  else if a < 0xC000 then .xram
  else if a < 0xE000 then .wram (a - 0xC000)
  else if a < 0xFE00 then .wram (a - 0xE000)
  else if a < 0xFEA0 then .oam (a - 0xFE00)
  else if a < 0xFF00 then .unusable
  else if a < 0xFF80 then .io (a - 0xFF00)
  else if a < 0xFFFF then .hram (a - 0xFF80)
  else .ie

/-- The registers of the I/O window (20_memory R75). -/
inductive IoReg where
  | p1 | sb | sc | div | tima | tma | tac | ifr
  /-- APU registers and wave RAM, plain storage (20_memory R86). -/
  | apu (off : Nat)
  | lcdc | stat | scy | scx | ly | lyc | dma | bgp | obp0 | obp1 | wy | wx | boot
  | unmapped
  deriving DecidableEq, Repr

/-- The register at offset `off` of the I/O window (20_memory R75). -/
def ioRegAt (off : Nat) : IoReg :=
  if 0x10 ≤ off ∧ off < 0x40 then .apu (off - 0x10)
  else
    match off with
    | 0x00 => .p1
    | 0x01 => .sb
    | 0x02 => .sc
    | 0x04 => .div
    | 0x05 => .tima
    | 0x06 => .tma
    | 0x07 => .tac
    | 0x0F => .ifr
    | 0x40 => .lcdc
    | 0x41 => .stat
    | 0x42 => .scy
    | 0x43 => .scx
    | 0x44 => .ly
    | 0x45 => .lyc
    | 0x46 => .dma
    | 0x47 => .bgp
    | 0x48 => .obp0
    | 0x49 => .obp1
    | 0x4A => .wy
    | 0x4B => .wx
    | 0x50 => .boot
    | _ => .unmapped

/-- The read column of 20_memory R75. -/
def State.ioRead (s : State) : IoReg → Byte
  | .p1 => s.joypad.p1
  | .sb => s.sb
  | .sc => 0x7E ||| (s.sc &&& 0x81)
  | .div => s.timer.div
  | .tima => s.timer.tima
  | .tma => s.timer.tma
  | .tac => 0b11111#5 ++ s.timer.tac
  | .ifr => 0b111#3 ++ s.ifReg
  | .apu off => s.mem.apu.read off
  | .lcdc => s.ppu.lcdc
  | .stat => s.ppu.stat
  | .scy => s.ppu.scy
  | .scx => s.ppu.scx
  | .ly => s.ppu.ly
  | .lyc => s.ppu.lyc
  | .dma => s.ppu.dma
  | .bgp => s.ppu.bgp
  | .obp0 => s.ppu.obp0
  | .obp1 => s.ppu.obp1
  | .wy => s.ppu.wy
  | .wx => s.ppu.wx
  | .boot => 0xFF
  | .unmapped => 0xFF

/-- The boot overlay's byte, if it is mapped at this address (20_memory R66). -/
def State.bootByte (s : State) (addr : Word) : Option Byte :=
  if s.bootMapped && decide (addr.toNat < 256) then
    s.cfg.bootRom.map fun bytes => bytes.getD addr.toNat 0
  else none

/-- A read of 0x0000..0x7FFF: boot overlay (R66), then the image (R67), 0xFF without an image (70 R431). -/
def State.readRomRange (s : State) (addr : Word) : Byte :=
  match s.bootByte addr with
  | some v => v
  | none =>
    match s.mem.cart with
    | some k => k.readRom addr
    | none => 0xFF

/-- A read of the external RAM window (R70), 0xFF without an image (70 R431). -/
def State.readRamRange (s : State) (addr : Word) : Byte :=
  match s.mem.cart with
  | some k => k.readRam addr
  | none => 0xFF

/-- `MemRead(addr, 1)` (00_scope R12, 20_memory R64). -/
def State.memRead (s : State) (addr : Word) : Byte :=
  match regionOf addr with
  | .rom => s.readRomRange addr
  | .vram off => s.mem.vram.read off
  | .xram => s.readRamRange addr
  | .wram off => s.mem.wram.read off
  | .oam off => s.mem.oam.read off
  | .unusable => 0xFF
  | .io off => s.ioRead (ioRegAt off)
  | .hram off => s.mem.hram.read off
  | .ie => s.ie

/-- Store one byte of OAM. -/
def State.setOam (s : State) (i : Nat) (v : Byte) : State :=
  { s with mem := { s.mem with oam := s.mem.oam.write i v } }

/-- The OAM copy's next `n` bytes from index `i` on: `OAM[i] <- MemRead(page * 256 + i)` (20_memory R84). -/
def State.dmaCopy (s : State) (page : Byte) (i : Nat) : Nat → State
  | 0 => s
  | n + 1 =>
    State.dmaCopy (s.setOam i (s.memRead (BitVec.ofNat 16 (page.toNat * 256 + i)))) page (i + 1) n

/-- A write to DMA: the register, then the copy of 160 bytes (20_memory R84). -/
def State.writeDma (s : State) (v : Byte) : State :=
  State.dmaCopy { s with ppu := { s.ppu with dma := v } } v 0 160

/-- The write column of 20_memory R75. -/
def State.ioWrite (s : State) (r : IoReg) (v : Byte) : State :=
  match r with
  | .p1 => s.writeP1 v
  | .sb => { s with sb := v }
  | .sc => { s with sc := v &&& 0x81 }
  | .div => { s with timer := s.timer.resetDiv }
  | .tima => { s with timer := s.timer.writeTima v }
  | .tma => { s with timer := s.timer.writeTma v }
  | .tac => { s with timer := s.timer.writeTac v }
  | .ifr => { s with ifReg := v.extractLsb' 0 5 }
  | .apu off => { s with mem := { s.mem with apu := s.mem.apu.write off v } }
  | .lcdc => s.writeLcdc v
  | .stat => s.writeStat v
  | .scy => { s with ppu := { s.ppu with scy := v } }
  | .scx => { s with ppu := { s.ppu with scx := v } }
  | .ly => s
  | .lyc => s.writeLyc v
  | .dma => s.writeDma v
  | .bgp => { s with ppu := { s.ppu with bgp := v } }
  | .obp0 => { s with ppu := { s.ppu with obp0 := v } }
  | .obp1 => { s with ppu := { s.ppu with obp1 := v } }
  | .wy => { s with ppu := { s.ppu with wy := v } }
  | .wx => { s with ppu := { s.ppu with wx := v } }
  | .boot => { s with bootMapped := if v = 0 then s.bootMapped else false }
  | .unmapped => s

/-- Apply a change to the loaded cartridge; nothing without one (70 R431). -/
def State.mapCart (s : State) (f : Cart → Cart) : State :=
  { s with mem := { s.mem with cart := s.mem.cart.map f } }

/-- `MemWrite(addr, 1, v)` (00_scope R12, 20_memory R64). -/
def State.memWrite (s : State) (addr : Word) (v : Byte) : State :=
  match regionOf addr with
  | .rom => s.mapCart fun k => k.writeRom addr v
  | .vram off => { s with mem := { s.mem with vram := s.mem.vram.write off v } }
  | .xram => s.mapCart fun k => k.writeRam addr v
  | .wram off => { s with mem := { s.mem with wram := s.mem.wram.write off v } }
  | .oam off => s.setOam off v
  | .unusable => s
  | .io off => s.ioWrite (ioRegAt off) v
  | .hram off => { s with mem := { s.mem with hram := s.mem.hram.write off v } }
  | .ie => { s with ie := v }

/-- `MemRead16(addr)`: low byte first (20_memory R63). -/
def State.memRead16 (s : State) (addr : Word) : Word :=
  join (s.memRead (addr + 1)) (s.memRead addr)

/-- `MemWrite16(addr, v)`: the low byte at `addr`, then the high byte after it (20_memory R63). -/
def State.memWrite16 (s : State) (addr : Word) (v : Word) : State :=
  (s.memWrite addr (loByte v)).memWrite (addr + 1) (hiByte v)

end Sys2Proof.Machine
end

