-- ==== Sys2Proof/Machine/Flags.lean ====
section
/-! DEFINITION. The flags (10_state R24, R25) and every flag computation: Add8, Sub8, Logic (41_alu8 R191), INC and
DEC (R216, R218), DAA (R220), the 16-bit forms (42 R231, R234) and Shift (43 R250). The carry and half-carry
terms are comparisons of integers, as the rules write them. -/

namespace Sys2Proof.Machine

/-- F from its four flags; bits 3..0 are always 0 (10_state R24, R25). -/
def packFlags (z n h c : Bool) : Byte :=
  BitVec.ofBool z ++ BitVec.ofBool n ++ BitVec.ofBool h ++ BitVec.ofBool c ++ 0#4

/-- The flag Z, F[7]. -/
def State.fZ (s : State) : Bool := bitOf s.regs.f 7
/-- The flag N, F[6]. -/
def State.fN (s : State) : Bool := bitOf s.regs.f 6
/-- The flag H, F[5]. -/
def State.fH (s : State) : Bool := bitOf s.regs.f 5
/-- The flag C, F[4]. -/
def State.fC (s : State) : Bool := bitOf s.regs.f 4

/-- A write to F stores `v & 0xF0` (10_state R25). -/
def State.setF (s : State) (v : Byte) : State := { s with regs := { s.regs with f := v &&& 0xF0 } }

/-- A flag update of all four flags. -/
def State.setFlags (s : State) (z n h c : Bool) : State := s.setF (packFlags z n h c)

/-- `cond(cc)` (30_encoding R126). -/
def State.cond (s : State) : Cond → Bool
  | .nz => !s.fZ
  | .z => s.fZ
  | .nc => !s.fC
  | .c => s.fC

/-- A byte result with the four flags it gives. -/
structure AluResult where
  value : Byte
  z : Bool
  n : Bool
  h : Bool
  c : Bool
  deriving DecidableEq, Repr

/-- `Add8(a, b, c)` (41_alu8 R191). -/
def add8 (a b : Byte) (c : Bool) : AluResult :=
  let r := a.toNat + b.toNat + c.toNat
  { value := BitVec.ofNat 8 r, z := r % 256 == 0, n := false
    h := decide (0xF < a.toNat % 16 + b.toNat % 16 + c.toNat), c := decide (0xFF < r) }

/-- `Sub8(a, b, c)`, a - b - c (41_alu8 R191). -/
def sub8 (a b : Byte) (c : Bool) : AluResult :=
  let r := BitVec.ofInt 8 ((a.toNat : Int) - b.toNat - c.toNat)
  { value := r, z := r == 0, n := true
    h := decide (a.toNat % 16 < b.toNat % 16 + c.toNat), c := decide (a.toNat < b.toNat + c.toNat) }

/-- `Logic(v, h)` (41_alu8 R191). -/
def logic8 (v : Byte) (h : Bool) : AluResult := { value := v, z := v == 0, n := false, h := h, c := false }

/-- The result of an ALU operation on A and an operand, with the carry in (30_encoding R128, 41_alu8 R192 to
R215). CP computes as SUB; its result byte is discarded. -/
def aluResult (op : AluOp) (a b : Byte) (carry : Bool) : AluResult :=
  match op with
  | .add => add8 a b false
  | .adc => add8 a b carry
  | .sub => sub8 a b false
  | .sbc => sub8 a b carry
  | .and => logic8 (a &&& b) true
  | .xor => logic8 (a ^^^ b) false
  | .or => logic8 (a ||| b) false
  | .cp => sub8 a b false

/-- INC on a byte; C is kept (41_alu8 R216). -/
def inc8 (v : Byte) (carry : Bool) : AluResult :=
  { value := v + 1, z := v + 1 == 0, n := false, h := v.extractLsb' 0 4 == 0xF#4, c := carry }

/-- DEC on a byte; C is kept (41_alu8 R218). -/
def dec8 (v : Byte) (carry : Bool) : AluResult :=
  { value := v - 1, z := v - 1 == 0, n := true, h := v.extractLsb' 0 4 == 0#4, c := carry }

/-- DAA (41_alu8 R220), on A and the flags N, H, C. -/
def daa8 (a : Byte) (n h c : Bool) : AluResult :=
  if n then
    let a1 := if c then a - 0x60 else a
    let a2 := if h then a1 - 0x06 else a1
    { value := a2, z := a2 == 0, n := n, h := false, c := c }
  else
    let c' := c || decide (0x99 < a.toNat)
    let a1 := if c' then a + 0x60 else a
    let a2 := if h || decide (0x09 < a.toNat % 16) then a1 + 0x06 else a1
    { value := a2, z := a2 == 0, n := n, h := false, c := c' }

/-- Half-carry of `ADD HL,rr`: a carry out of bit 11 (42_alu16 R231). -/
def addHlHalf (a b : Word) : Bool := decide (0x0FFF < a.toNat % 4096 + b.toNat % 4096)

/-- Carry of `ADD HL,rr`: a carry out of bit 15 (42_alu16 R231). -/
def addHlCarry (a b : Word) : Bool := decide (0xFFFF < a.toNat + b.toNat)

/-- Half-carry of `ADD SP,e` and `LD HL,SP+e`: unsigned, out of bit 3 of the low byte (42_alu16 R234). -/
def addSpHalf (sp : Word) (e : Byte) : Bool := decide (0xF < sp.toNat % 16 + e.toNat % 16)

/-- Carry of `ADD SP,e` and `LD HL,SP+e`: unsigned, out of bit 7 of the low byte (42_alu16 R234). -/
def addSpCarry (sp : Word) (e : Byte) : Bool := decide (0xFF < sp.toNat % 256 + e.toNat)

/-- `Shift(k, v)`: the result byte and the bit shifted out, with the carry in (43 R250). -/
def shift8 (op : ShiftOp) (v : Byte) (carry : Bool) : Byte × Bool :=
  match op with
  | .rlc => (v <<< 1 ||| v >>> 7, bitOf v 7)
  | .rrc => (v >>> 1 ||| v <<< 7, bitOf v 0)
  | .rl => (v <<< 1 ||| (BitVec.ofBool carry).setWidth 8, bitOf v 7)
  | .rr => (v >>> 1 ||| (BitVec.ofBool carry).setWidth 8 <<< 7, bitOf v 0)
  | .sla => (v <<< 1, bitOf v 7)
  | .sra => (v >>> 1 ||| v &&& 0x80, bitOf v 0)
  | .swap => (v <<< 4 ||| v >>> 4, false)
  | .srl => (v >>> 1, bitOf v 0)

end Sys2Proof.Machine
end

