-- ==== Sys2Proof/Machine/Ops.lean ====
section
/-! DEFINITION. The named operations on registers, stack and control state that every meaning is written in;
interrupt entry as ONE shared operation (60_exceptions R340) with the return beside it (44 R289); the end of an
instruction (60 R403) and the advance of the peripherals (60 R401). -/

namespace Sys2Proof.Machine

/-- Read an 8-bit register (10_state R20). -/
def Regs.get (r : Regs) : Reg8 → Byte
  | .b => r.b
  | .c => r.c
  | .d => r.d
  | .e => r.e
  | .h => r.h
  | .l => r.l
  | .a => r.a

/-- Write an 8-bit register (10_state R20). -/
def Regs.set (r : Regs) (x : Reg8) (v : Byte) : Regs :=
  match x with
  | .b => { r with b := v }
  | .c => { r with c := v }
  | .d => { r with d := v }
  | .e => { r with e := v }
  | .h => { r with h := v }
  | .l => { r with l := v }
  | .a => { r with a := v }

/-- Read a 16-bit operand; the pairs are views, first-named register high (10_state R21). -/
def Regs.getPair (r : Regs) : Pair → Word
  | .bc => join r.b r.c
  | .de => join r.d r.e
  | .hl => join r.h r.l
  | .sp => r.sp
  | .af => join r.a r.f

/-- Write a 16-bit operand; for AF the low byte is masked (10_state R21, R25). -/
def Regs.setPair (r : Regs) (p : Pair) (v : Word) : Regs :=
  match p with
  | .bc => { r with b := hiByte v, c := loByte v }
  | .de => { r with d := hiByte v, e := loByte v }
  | .hl => { r with h := hiByte v, l := loByte v }
  | .sp => { r with sp := v }
  | .af => { r with a := hiByte v, f := loByte v &&& 0xF0 }

/-- `x[r]` for an 8-bit register (00_scope R11). -/
def State.reg (s : State) (r : Reg8) : Byte := s.regs.get r
/-- `x[r] <- v` for an 8-bit register (00_scope R11). -/
def State.setReg (s : State) (r : Reg8) (v : Byte) : State := { s with regs := s.regs.set r v }
/-- `x[rr]` for a 16-bit operand. -/
def State.pair (s : State) (p : Pair) : Word := s.regs.getPair p
/-- `x[rr] <- v` for a 16-bit operand. -/
def State.setPair (s : State) (p : Pair) (v : Word) : State := { s with regs := s.regs.setPair p v }
/-- `pc <- target` (00_scope R11). -/
def State.setPc (s : State) (v : Word) : State := { s with regs := { s.regs with pc := v } }
/-- `SP <- v`. -/
def State.setSp (s : State) (v : Word) : State := { s with regs := { s.regs with sp := v } }
/-- `cycles <- n` (00_scope R13). -/
def State.report (s : State) (n : Nat) : State := { s with cycles := n }

/-- `Push16(v)`: the high byte first, to the higher address (40_load R172). -/
def State.push16 (s : State) (v : Word) : State :=
  let s1 := (s.setSp (s.regs.sp - 1)).memWrite (s.regs.sp - 1) (hiByte v)
  (s1.setSp (s.regs.sp - 2)).memWrite (s.regs.sp - 2) (loByte v)

/-- The value `Pop16()` returns: low byte at SP, high byte after it (40_load R173). -/
def State.popValue (s : State) : Word := join (s.memRead (s.regs.sp + 1)) (s.memRead s.regs.sp)

/-- The SP update of `Pop16()` (40_load R173). -/
def State.popSp (s : State) : State := s.setSp (s.regs.sp + 2)

/-- The return address an interrupt saves: PC, or PC - 1 with HALT_BUG set (60_exceptions R340, R343). -/
def State.returnAddress (s : State) : Word := if s.haltBug then s.regs.pc - 1 else s.regs.pc

/-- TAKING AN INTERRUPT, `Dispatch(k)` (60_exceptions R340): IME, EI_DELAY and IF[k] are cleared, the return
address is saved on the stack, HALT_BUG is cleared and PC goes to the source's vector. The source and its
vector are fixed before the push. -/
def State.dispatch (s : State) (k : Irq) : State :=
  let ret := s.returnAddress
  let s1 := State.clearRequest { s with ime := false, eiDelay := 0, haltBug := false } k
  ((s1.push16 ret).setPc k.vector).report dispatchCycles

/-- RETURNING, RETI: `PC <- Pop16(); IME <- 1; EI_DELAY <- 0` (44_control R289). -/
def State.returnFromInterrupt (s : State) : State :=
  { s.popSp.setPc s.popValue with ime := true, eiDelay := 0 }

/-- `lock_cpu()`: the Locked run state, reported as 4 cycles (45_system R316). -/
def State.lockCpu (s : State) : State := State.report { s with run := .locked } idleCycles

/-- `EndOfInstruction()` (60_exceptions R403). -/
def State.endOfInstruction (s : State) : State :=
  if s.eiDelay = 0 then s
  else if s.eiDelay = 1 then { s with eiDelay := 0, ime := true }
  else { s with eiDelay := s.eiDelay - 1 }

/-- `TimerAdvance(cycles); PpuAdvance(cycles)`, the timer first (60_exceptions R401). -/
def State.advance (s : State) : State := (s.timerAdvance s.cycles).ppuAdvance s.cycles

/-- A meaning's answer: the next state, with the cycles the step reports (30_encoding R138). -/
def finish (n : Nat) (s : State) : Result := .next (s.report n)

/-- The answer of a conditional transfer: one cost when taken, another when not (30_encoding R138). -/
def finishIf (taken : Bool) (yes no : Nat) (t s : State) : Result :=
  if taken then finish yes t else finish no s

/-- Apply a change to a next state, leaving faults and refusals as they are. -/
def mapNext (f : State → State) : Result → Result
  | .next s => .next (f s)
  | .fault r => .fault r
  | .refused r => .refused r

end Sys2Proof.Machine
end

