-- ==== Sys2Proof/Machine/Operands.lean ====
section
/-! DEFINITION. Operand forms and the operations of the instruction families over them (40_load R150, 30_encoding R125,
R127; 41, 42, 43, 44). Each is the pseudocode of the rules it cites, for every operand form. -/

namespace Sys2Proof.Machine

/-- The memory operands (40_load R150). -/
inductive MemOperand where
  /-- (HL), (HL+), (HL-) -/
  | hl
  /-- (BC) -/
  | bc
  /-- (DE) -/
  | de
  /-- (nn) -/
  | abs (nn : Word)
  /-- (n), the high page -/
  | high (n : Byte)
  /-- (C), the high page -/
  | highC
  deriving DecidableEq, Repr

/-- The effective address of a memory operand (40_load R150). -/
def State.ea (s : State) : MemOperand → Word
  | .hl => s.pair .hl
  | .bc => s.pair .bc
  | .de => s.pair .de
  | .abs nn => nn
  | .high n => highPage n
  | .highC => highPage s.regs.c

/-- The byte a memory operand reads. -/
def State.loadFrom (s : State) (m : MemOperand) : Byte := s.memRead (s.ea m)

/-- A store to a memory operand. -/
def State.storeTo (s : State) (m : MemOperand) (v : Byte) : State := s.memWrite (s.ea m) v

/-- `Operand(z)` (41_alu8 R191): a register or the byte at HL. -/
def State.readLoc (s : State) : Loc8 → Byte
  | .reg r => s.reg r
  | .memHL => s.loadFrom .hl

/-- `Store(z, v)` (43 R250): a register or the byte at HL. -/
def State.writeLoc (s : State) (l : Loc8) (v : Byte) : State :=
  match l with
  | .reg r => s.setReg r v
  | .memHL => s.storeTo .hl v

/-- `HL <- (HL + d) & 0xFFFF`, the post-modification of (HL+) and (HL-) (40_load R150). -/
def State.bumpHl (s : State) (d : Word) : State := s.setPair .hl (s.pair .hl + d)

/-- An 8-bit ALU operation on A and an operand byte (41_alu8 R192 to R215); CP leaves A. -/
def State.alu (s : State) (op : AluOp) (v : Byte) : State :=
  let r := aluResult op s.regs.a v s.fC
  let s' := s.setFlags r.z r.n r.h r.c
  if op = .cp then s' else s'.setReg .a r.value

/-- Write back a read-modify-write result and its flags. -/
def State.writeBack (s : State) (l : Loc8) (r : AluResult) : State :=
  (s.writeLoc l r.value).setFlags r.z r.n r.h r.c

/-- INC on a register or (HL) (41_alu8 R216, R217). -/
def State.incLoc (s : State) (l : Loc8) : State := s.writeBack l (inc8 (s.readLoc l) s.fC)

/-- DEC on a register or (HL) (41_alu8 R218, R219). -/
def State.decLoc (s : State) (l : Loc8) : State := s.writeBack l (dec8 (s.readLoc l) s.fC)

/-- A prefixed rotate or shift of a register or (HL) (43 R255 to R270). -/
def State.shiftLoc (s : State) (op : ShiftOp) (l : Loc8) : State :=
  let r := shift8 op (s.readLoc l) s.fC
  (s.writeLoc l r.1).setFlags (r.1 == 0) false false r.2

/-- An accumulator rotate: Z is forced to 0 (43 R251 to R254). -/
def State.rotateA (s : State) (op : ShiftOp) : State :=
  let r := shift8 op s.regs.a s.fC
  (s.setReg .a r.1).setFlags false false false r.2

/-- BIT b (43 R271, R272). -/
def State.testBit (s : State) (b : Nat) (l : Loc8) : State :=
  s.setFlags (!bitOf (s.readLoc l) b) false true s.fC

/-- RES b (43 R273, R274). -/
def State.resetBit (s : State) (b : Nat) (l : Loc8) : State :=
  s.writeLoc l (s.readLoc l &&& ~~~(1#8 <<< b))

/-- SET b (43 R275, R276). -/
def State.setBit (s : State) (b : Nat) (l : Loc8) : State :=
  s.writeLoc l (s.readLoc l ||| 1#8 <<< b)

/-- DAA (41_alu8 R220). -/
def State.daa (s : State) : State :=
  let r := daa8 s.regs.a s.fN s.fH s.fC
  (s.setReg .a r.value).setFlags r.z r.n r.h r.c

/-- ADD HL,rr: Z is kept (42_alu16 R231). -/
def State.addHl (s : State) (p : Pair) : State :=
  let a := s.pair .hl
  let b := s.pair p
  (s.setPair .hl (a + b)).setFlags s.fZ false (addHlHalf a b) (addHlCarry a b)

/-- The flags of ADD SP,e and LD HL,SP+e (42_alu16 R234, R235). -/
def State.spFlags (s : State) (e : Byte) : State :=
  s.setFlags false false (addSpHalf s.regs.sp e) (addSpCarry s.regs.sp e)

/-- PUSH qq (40_load R172). -/
def State.push (s : State) (p : Pair) : State := s.push16 (s.pair p)

/-- POP qq (40_load R173, R174). -/
def State.pop (s : State) (p : Pair) : State := s.popSp.setPair p s.popValue

/-- `PC_next + sext_16(e)` (44_control R284): PC is already past the instruction (R280). -/
def State.relTarget (s : State) (e : Byte) : Word := s.regs.pc + sext16 e

/-- CALL's effect, also RST's: the return address is PC_next (44_control R280, R286, R291). -/
def State.call (s : State) (target : Word) : State := (s.push16 s.regs.pc).setPc target

/-- RET's effect (44_control R288). -/
def State.ret (s : State) : State := s.popSp.setPc s.popValue

/-- JP cc,nn (44_control R282). -/
def jumpIf (cc : Cond) (nn : Word) (s : State) : Result := finishIf (s.cond cc) 16 12 (s.setPc nn) s

/-- JR cc,e (44_control R285). -/
def jumpRelIf (cc : Cond) (e : Byte) (s : State) : Result :=
  finishIf (s.cond cc) 12 8 (s.setPc (s.relTarget e)) s

/-- CALL cc,nn (44_control R287). -/
def callIf (cc : Cond) (nn : Word) (s : State) : Result := finishIf (s.cond cc) 24 12 (s.call nn) s

/-- RET cc (44_control R290). -/
def retIf (cc : Cond) (s : State) : Result := finishIf (s.cond cc) 20 8 s.ret s

end Sys2Proof.Machine
end

