-- ==== Sys2Proof/Machine/Alu16.lean ====
section
/-! DEFINITION. 16-bit arithmetic (42_alu16.md): one meaning per instruction. A meaning starts after every byte of the
instruction is fetched, with PC past them (00_scope R14, 44_control R280), and answers the next state with the
cycles the step reports (30_encoding R138). -/

namespace Sys2Proof.Machine

/-- `INC BC` (R232). -/
def execIncBC (s : State) : Result := finish 8 (s.setPair .bc (s.pair .bc + 1))

/-- `ADD HL,BC` (R231). -/
def execAddHLBC (s : State) : Result := finish 8 (s.addHl .bc)

/-- `DEC BC` (R233). -/
def execDecBC (s : State) : Result := finish 8 (s.setPair .bc (s.pair .bc - 1))

/-- `INC DE` (R232). -/
def execIncDE (s : State) : Result := finish 8 (s.setPair .de (s.pair .de + 1))

/-- `ADD HL,DE` (R231). -/
def execAddHLDE (s : State) : Result := finish 8 (s.addHl .de)

/-- `DEC DE` (R233). -/
def execDecDE (s : State) : Result := finish 8 (s.setPair .de (s.pair .de - 1))

/-- `INC HL` (R232). -/
def execIncHL (s : State) : Result := finish 8 (s.setPair .hl (s.pair .hl + 1))

/-- `ADD HL,HL` (R231). -/
def execAddHLHL (s : State) : Result := finish 8 (s.addHl .hl)

/-- `DEC HL` (R233). -/
def execDecHL (s : State) : Result := finish 8 (s.setPair .hl (s.pair .hl - 1))

/-- `INC SP` (R232). -/
def execIncSP (s : State) : Result := finish 8 (s.setPair .sp (s.pair .sp + 1))

/-- `ADD HL,SP` (R231). -/
def execAddHLSP (s : State) : Result := finish 8 (s.addHl .sp)

/-- `DEC SP` (R233). -/
def execDecSP (s : State) : Result := finish 8 (s.setPair .sp (s.pair .sp - 1))

/-- `ADD SP,e` (R234). -/
def execAddSPE8 (e : Byte) (s : State) : Result :=
  finish 16 ((s.spFlags e).setSp (s.regs.sp + sext16 e))

/-- `LD HL,SP+e` (R235). -/
def execLdHLSPE (e : Byte) (s : State) : Result :=
  finish 12 ((s.setPair .hl (s.regs.sp + sext16 e)).setFlags false false (addSpHalf s.regs.sp e) (addSpCarry s.regs.sp e))

end Sys2Proof.Machine
end

