-- ==== Sys2Proof/Machine/Alu8.lean ====
section
/-! DEFINITION. 8-bit arithmetic and logic (41_alu8.md): one meaning per instruction. A meaning starts after every byte of the
instruction is fetched, with PC past them (00_scope R14, 44_control R280), and answers the next state with the
cycles the step reports (30_encoding R138). -/

namespace Sys2Proof.Machine

/-- `INC B` (R216). -/
def execIncB (s : State) : Result := finish 4 (s.incLoc (.reg .b))

/-- `DEC B` (R218). -/
def execDecB (s : State) : Result := finish 4 (s.decLoc (.reg .b))

/-- `INC C` (R216). -/
def execIncC (s : State) : Result := finish 4 (s.incLoc (.reg .c))

/-- `DEC C` (R218). -/
def execDecC (s : State) : Result := finish 4 (s.decLoc (.reg .c))

/-- `INC D` (R216). -/
def execIncD (s : State) : Result := finish 4 (s.incLoc (.reg .d))

/-- `DEC D` (R218). -/
def execDecD (s : State) : Result := finish 4 (s.decLoc (.reg .d))

/-- `INC E` (R216). -/
def execIncE (s : State) : Result := finish 4 (s.incLoc (.reg .e))

/-- `DEC E` (R218). -/
def execDecE (s : State) : Result := finish 4 (s.decLoc (.reg .e))

/-- `INC H` (R216). -/
def execIncH (s : State) : Result := finish 4 (s.incLoc (.reg .h))

/-- `DEC H` (R218). -/
def execDecH (s : State) : Result := finish 4 (s.decLoc (.reg .h))

/-- `DAA` (R220). -/
def execDaa (s : State) : Result := finish 4 s.daa

/-- `INC L` (R216). -/
def execIncL (s : State) : Result := finish 4 (s.incLoc (.reg .l))

/-- `DEC L` (R218). -/
def execDecL (s : State) : Result := finish 4 (s.decLoc (.reg .l))

/-- `CPL` (R221). -/
def execCpl (s : State) : Result :=
  finish 4 ((s.setReg .a (~~~s.regs.a)).setFlags s.fZ true true s.fC)

/-- `INC (HL)` (R217). -/
def execIncMemHL (s : State) : Result := finish 12 (s.incLoc .memHL)

/-- `DEC (HL)` (R219). -/
def execDecMemHL (s : State) : Result := finish 12 (s.decLoc .memHL)

/-- `SCF` (R222). -/
def execScf (s : State) : Result := finish 4 (s.setFlags s.fZ false false true)

/-- `INC A` (R216). -/
def execIncA (s : State) : Result := finish 4 (s.incLoc (.reg .a))

/-- `DEC A` (R218). -/
def execDecA (s : State) : Result := finish 4 (s.decLoc (.reg .a))

/-- `CCF` (R223). -/
def execCcf (s : State) : Result := finish 4 (s.setFlags s.fZ false false (!s.fC))

/-- `ADD A,B` (R192). -/
def execAddAB (s : State) : Result := finish 4 (s.alu .add (s.readLoc (.reg .b)))

/-- `ADD A,C` (R192). -/
def execAddAC (s : State) : Result := finish 4 (s.alu .add (s.readLoc (.reg .c)))

/-- `ADD A,D` (R192). -/
def execAddAD (s : State) : Result := finish 4 (s.alu .add (s.readLoc (.reg .d)))

/-- `ADD A,E` (R192). -/
def execAddAE (s : State) : Result := finish 4 (s.alu .add (s.readLoc (.reg .e)))

/-- `ADD A,H` (R192). -/
def execAddAH (s : State) : Result := finish 4 (s.alu .add (s.readLoc (.reg .h)))

/-- `ADD A,L` (R192). -/
def execAddAL (s : State) : Result := finish 4 (s.alu .add (s.readLoc (.reg .l)))

/-- `ADD A,(HL)` (R193). -/
def execAddAMemHL (s : State) : Result := finish 8 (s.alu .add (s.readLoc .memHL))

/-- `ADD A,A` (R192). -/
def execAddAA (s : State) : Result := finish 4 (s.alu .add (s.readLoc (.reg .a)))

/-- `ADC A,B` (R195). -/
def execAdcAB (s : State) : Result := finish 4 (s.alu .adc (s.readLoc (.reg .b)))

/-- `ADC A,C` (R195). -/
def execAdcAC (s : State) : Result := finish 4 (s.alu .adc (s.readLoc (.reg .c)))

/-- `ADC A,D` (R195). -/
def execAdcAD (s : State) : Result := finish 4 (s.alu .adc (s.readLoc (.reg .d)))

/-- `ADC A,E` (R195). -/
def execAdcAE (s : State) : Result := finish 4 (s.alu .adc (s.readLoc (.reg .e)))

/-- `ADC A,H` (R195). -/
def execAdcAH (s : State) : Result := finish 4 (s.alu .adc (s.readLoc (.reg .h)))

/-- `ADC A,L` (R195). -/
def execAdcAL (s : State) : Result := finish 4 (s.alu .adc (s.readLoc (.reg .l)))

/-- `ADC A,(HL)` (R196). -/
def execAdcAMemHL (s : State) : Result := finish 8 (s.alu .adc (s.readLoc .memHL))

/-- `ADC A,A` (R195). -/
def execAdcAA (s : State) : Result := finish 4 (s.alu .adc (s.readLoc (.reg .a)))

/-- `SUB B` (R198). -/
def execSubB (s : State) : Result := finish 4 (s.alu .sub (s.readLoc (.reg .b)))

/-- `SUB C` (R198). -/
def execSubC (s : State) : Result := finish 4 (s.alu .sub (s.readLoc (.reg .c)))

/-- `SUB D` (R198). -/
def execSubD (s : State) : Result := finish 4 (s.alu .sub (s.readLoc (.reg .d)))

/-- `SUB E` (R198). -/
def execSubE (s : State) : Result := finish 4 (s.alu .sub (s.readLoc (.reg .e)))

/-- `SUB H` (R198). -/
def execSubH (s : State) : Result := finish 4 (s.alu .sub (s.readLoc (.reg .h)))

/-- `SUB L` (R198). -/
def execSubL (s : State) : Result := finish 4 (s.alu .sub (s.readLoc (.reg .l)))

/-- `SUB (HL)` (R199). -/
def execSubMemHL (s : State) : Result := finish 8 (s.alu .sub (s.readLoc .memHL))

/-- `SUB A` (R198). -/
def execSubA (s : State) : Result := finish 4 (s.alu .sub (s.readLoc (.reg .a)))

/-- `SBC A,B` (R201). -/
def execSbcAB (s : State) : Result := finish 4 (s.alu .sbc (s.readLoc (.reg .b)))

/-- `SBC A,C` (R201). -/
def execSbcAC (s : State) : Result := finish 4 (s.alu .sbc (s.readLoc (.reg .c)))

/-- `SBC A,D` (R201). -/
def execSbcAD (s : State) : Result := finish 4 (s.alu .sbc (s.readLoc (.reg .d)))

/-- `SBC A,E` (R201). -/
def execSbcAE (s : State) : Result := finish 4 (s.alu .sbc (s.readLoc (.reg .e)))

/-- `SBC A,H` (R201). -/
def execSbcAH (s : State) : Result := finish 4 (s.alu .sbc (s.readLoc (.reg .h)))

/-- `SBC A,L` (R201). -/
def execSbcAL (s : State) : Result := finish 4 (s.alu .sbc (s.readLoc (.reg .l)))

/-- `SBC A,(HL)` (R202). -/
def execSbcAMemHL (s : State) : Result := finish 8 (s.alu .sbc (s.readLoc .memHL))

/-- `SBC A,A` (R201). -/
def execSbcAA (s : State) : Result := finish 4 (s.alu .sbc (s.readLoc (.reg .a)))

/-- `AND B` (R204). -/
def execAndB (s : State) : Result := finish 4 (s.alu .and (s.readLoc (.reg .b)))

/-- `AND C` (R204). -/
def execAndC (s : State) : Result := finish 4 (s.alu .and (s.readLoc (.reg .c)))

/-- `AND D` (R204). -/
def execAndD (s : State) : Result := finish 4 (s.alu .and (s.readLoc (.reg .d)))

/-- `AND E` (R204). -/
def execAndE (s : State) : Result := finish 4 (s.alu .and (s.readLoc (.reg .e)))

/-- `AND H` (R204). -/
def execAndH (s : State) : Result := finish 4 (s.alu .and (s.readLoc (.reg .h)))

/-- `AND L` (R204). -/
def execAndL (s : State) : Result := finish 4 (s.alu .and (s.readLoc (.reg .l)))

/-- `AND (HL)` (R205). -/
def execAndMemHL (s : State) : Result := finish 8 (s.alu .and (s.readLoc .memHL))

/-- `AND A` (R204). -/
def execAndA (s : State) : Result := finish 4 (s.alu .and (s.readLoc (.reg .a)))

/-- `XOR B` (R207). -/
def execXorB (s : State) : Result := finish 4 (s.alu .xor (s.readLoc (.reg .b)))

/-- `XOR C` (R207). -/
def execXorC (s : State) : Result := finish 4 (s.alu .xor (s.readLoc (.reg .c)))

/-- `XOR D` (R207). -/
def execXorD (s : State) : Result := finish 4 (s.alu .xor (s.readLoc (.reg .d)))

/-- `XOR E` (R207). -/
def execXorE (s : State) : Result := finish 4 (s.alu .xor (s.readLoc (.reg .e)))

/-- `XOR H` (R207). -/
def execXorH (s : State) : Result := finish 4 (s.alu .xor (s.readLoc (.reg .h)))

/-- `XOR L` (R207). -/
def execXorL (s : State) : Result := finish 4 (s.alu .xor (s.readLoc (.reg .l)))

/-- `XOR (HL)` (R208). -/
def execXorMemHL (s : State) : Result := finish 8 (s.alu .xor (s.readLoc .memHL))

/-- `XOR A` (R207). -/
def execXorA (s : State) : Result := finish 4 (s.alu .xor (s.readLoc (.reg .a)))

/-- `OR B` (R210). -/
def execOrB (s : State) : Result := finish 4 (s.alu .or (s.readLoc (.reg .b)))

/-- `OR C` (R210). -/
def execOrC (s : State) : Result := finish 4 (s.alu .or (s.readLoc (.reg .c)))

/-- `OR D` (R210). -/
def execOrD (s : State) : Result := finish 4 (s.alu .or (s.readLoc (.reg .d)))

/-- `OR E` (R210). -/
def execOrE (s : State) : Result := finish 4 (s.alu .or (s.readLoc (.reg .e)))

/-- `OR H` (R210). -/
def execOrH (s : State) : Result := finish 4 (s.alu .or (s.readLoc (.reg .h)))

/-- `OR L` (R210). -/
def execOrL (s : State) : Result := finish 4 (s.alu .or (s.readLoc (.reg .l)))

/-- `OR (HL)` (R211). -/
def execOrMemHL (s : State) : Result := finish 8 (s.alu .or (s.readLoc .memHL))

/-- `OR A` (R210). -/
def execOrA (s : State) : Result := finish 4 (s.alu .or (s.readLoc (.reg .a)))

/-- `CP B` (R213). -/
def execCpB (s : State) : Result := finish 4 (s.alu .cp (s.readLoc (.reg .b)))

/-- `CP C` (R213). -/
def execCpC (s : State) : Result := finish 4 (s.alu .cp (s.readLoc (.reg .c)))

/-- `CP D` (R213). -/
def execCpD (s : State) : Result := finish 4 (s.alu .cp (s.readLoc (.reg .d)))

/-- `CP E` (R213). -/
def execCpE (s : State) : Result := finish 4 (s.alu .cp (s.readLoc (.reg .e)))

/-- `CP H` (R213). -/
def execCpH (s : State) : Result := finish 4 (s.alu .cp (s.readLoc (.reg .h)))

/-- `CP L` (R213). -/
def execCpL (s : State) : Result := finish 4 (s.alu .cp (s.readLoc (.reg .l)))

/-- `CP (HL)` (R214). -/
def execCpMemHL (s : State) : Result := finish 8 (s.alu .cp (s.readLoc .memHL))

/-- `CP A` (R213). -/
def execCpA (s : State) : Result := finish 4 (s.alu .cp (s.readLoc (.reg .a)))

/-- `ADD A,n` (R194). -/
def execAddAN (n : Byte) (s : State) : Result := finish 8 (s.alu .add n)

/-- `ADC A,n` (R197). -/
def execAdcAN (n : Byte) (s : State) : Result := finish 8 (s.alu .adc n)

/-- `SUB n` (R200). -/
def execSubN (n : Byte) (s : State) : Result := finish 8 (s.alu .sub n)

/-- `SBC A,n` (R203). -/
def execSbcAN (n : Byte) (s : State) : Result := finish 8 (s.alu .sbc n)

/-- `AND n` (R206). -/
def execAndN (n : Byte) (s : State) : Result := finish 8 (s.alu .and n)

/-- `XOR n` (R209). -/
def execXorN (n : Byte) (s : State) : Result := finish 8 (s.alu .xor n)

/-- `OR n` (R212). -/
def execOrN (n : Byte) (s : State) : Result := finish 8 (s.alu .or n)

/-- `CP n` (R215). -/
def execCpN (n : Byte) (s : State) : Result := finish 8 (s.alu .cp n)

end Sys2Proof.Machine
end

