-- ==== Sys2Proof/Machine/Control.lean ====
section
/-! DEFINITION. Control transfer (44_control.md): one meaning per instruction. A meaning starts after every byte of the
instruction is fetched, with PC past them (00_scope R14, 44_control R280), and answers the next state with the
cycles the step reports (30_encoding R138). -/

namespace Sys2Proof.Machine

/-- `JR e` (R284). -/
def execJrE8 (e : Byte) (s : State) : Result := finish 12 (s.setPc (s.relTarget e))

/-- `JR NZ,e` (R285). -/
def execJrNZE8 (e : Byte) (s : State) : Result := jumpRelIf .nz e s

/-- `JR Z,e` (R285). -/
def execJrZE8 (e : Byte) (s : State) : Result := jumpRelIf .z e s

/-- `JR NC,e` (R285). -/
def execJrNCE8 (e : Byte) (s : State) : Result := jumpRelIf .nc e s

/-- `JR C,e` (R285). -/
def execJrCE8 (e : Byte) (s : State) : Result := jumpRelIf .c e s

/-- `RET NZ` (R290). -/
def execRetNZ (s : State) : Result := retIf .nz s

/-- `JP NZ,nn` (R282). -/
def execJpNZNN (nn : Word) (s : State) : Result := jumpIf .nz nn s

/-- `JP nn` (R281). -/
def execJpNN (nn : Word) (s : State) : Result := finish 16 (s.setPc nn)

/-- `CALL NZ,nn` (R287). -/
def execCallNZNN (nn : Word) (s : State) : Result := callIf .nz nn s

/-- `RST 0x00` (R291). -/
def execRst00 (s : State) : Result := finish 16 (s.call 0x0000)

/-- `RET Z` (R290). -/
def execRetZ (s : State) : Result := retIf .z s

/-- `RET` (R288). -/
def execRet (s : State) : Result := finish 16 s.ret

/-- `JP Z,nn` (R282). -/
def execJpZNN (nn : Word) (s : State) : Result := jumpIf .z nn s

/-- `CALL Z,nn` (R287). -/
def execCallZNN (nn : Word) (s : State) : Result := callIf .z nn s

/-- `CALL nn` (R286). -/
def execCallNN (nn : Word) (s : State) : Result := finish 24 (s.call nn)

/-- `RST 0x08` (R291). -/
def execRst08 (s : State) : Result := finish 16 (s.call 0x0008)

/-- `RET NC` (R290). -/
def execRetNC (s : State) : Result := retIf .nc s

/-- `JP NC,nn` (R282). -/
def execJpNCNN (nn : Word) (s : State) : Result := jumpIf .nc nn s

/-- `CALL NC,nn` (R287). -/
def execCallNCNN (nn : Word) (s : State) : Result := callIf .nc nn s

/-- `RST 0x10` (R291). -/
def execRst10 (s : State) : Result := finish 16 (s.call 0x0010)

/-- `RET C` (R290). -/
def execRetC (s : State) : Result := retIf .c s

/-- `RETI` (R289). -/
def execReti (s : State) : Result := finish 16 s.returnFromInterrupt

/-- `JP C,nn` (R282). -/
def execJpCNN (nn : Word) (s : State) : Result := jumpIf .c nn s

/-- `CALL C,nn` (R287). -/
def execCallCNN (nn : Word) (s : State) : Result := callIf .c nn s

/-- `RST 0x18` (R291). -/
def execRst18 (s : State) : Result := finish 16 (s.call 0x0018)

/-- `RST 0x20` (R291). -/
def execRst20 (s : State) : Result := finish 16 (s.call 0x0020)

/-- `JP HL` (R283). -/
def execJpHL (s : State) : Result := finish 4 (s.setPc (s.pair .hl))

/-- `RST 0x28` (R291). -/
def execRst28 (s : State) : Result := finish 16 (s.call 0x0028)

/-- `RST 0x30` (R291). -/
def execRst30 (s : State) : Result := finish 16 (s.call 0x0030)

/-- `RST 0x38` (R291). -/
def execRst38 (s : State) : Result := finish 16 (s.call 0x0038)

end Sys2Proof.Machine
end

