-- ==== Sys2Proof/Machine/Load.lean ====
section
/-! DEFINITION. Loads, stores and stack transfers (40_load.md): one meaning per instruction. A meaning starts after every byte of the
instruction is fetched, with PC past them (00_scope R14, 44_control R280), and answers the next state with the
cycles the step reports (30_encoding R138). -/

namespace Sys2Proof.Machine

/-- `LD BC,nn` (R171). -/
def execLdBCNN (nn : Word) (s : State) : Result := finish 12 (s.setPair .bc nn)

/-- `LD (BC),A` (R158). -/
def execLdMemBCA (s : State) : Result := finish 8 (s.storeTo .bc (s.reg .a))

/-- `LD B,n` (R152). -/
def execLdBN (n : Byte) (s : State) : Result := finish 8 (s.setReg .b n)

/-- `LD (nn),SP` (R170). -/
def execLdMemNNSP (nn : Word) (s : State) : Result := finish 20 (s.memWrite16 nn s.regs.sp)

/-- `LD A,(BC)` (R156). -/
def execLdAMemBC (s : State) : Result := finish 8 (s.setReg .a (s.loadFrom .bc))

/-- `LD C,n` (R152). -/
def execLdCN (n : Byte) (s : State) : Result := finish 8 (s.setReg .c n)

/-- `LD DE,nn` (R171). -/
def execLdDENN (nn : Word) (s : State) : Result := finish 12 (s.setPair .de nn)

/-- `LD (DE),A` (R159). -/
def execLdMemDEA (s : State) : Result := finish 8 (s.storeTo .de (s.reg .a))

/-- `LD D,n` (R152). -/
def execLdDN (n : Byte) (s : State) : Result := finish 8 (s.setReg .d n)

/-- `LD A,(DE)` (R157). -/
def execLdAMemDE (s : State) : Result := finish 8 (s.setReg .a (s.loadFrom .de))

/-- `LD E,n` (R152). -/
def execLdEN (n : Byte) (s : State) : Result := finish 8 (s.setReg .e n)

/-- `LD HL,nn` (R171). -/
def execLdHLNN (nn : Word) (s : State) : Result := finish 12 (s.setPair .hl nn)

/-- `LD (HL+),A` (R169). -/
def execLdMemHLIncA (s : State) : Result := finish 8 ((s.storeTo .hl s.regs.a).bumpHl 1)

/-- `LD H,n` (R152). -/
def execLdHN (n : Byte) (s : State) : Result := finish 8 (s.setReg .h n)

/-- `LD A,(HL+)` (R168). -/
def execLdAMemHLInc (s : State) : Result := finish 8 ((s.setReg .a (s.loadFrom .hl)).bumpHl 1)

/-- `LD L,n` (R152). -/
def execLdLN (n : Byte) (s : State) : Result := finish 8 (s.setReg .l n)

/-- `LD SP,nn` (R171). -/
def execLdSPNN (nn : Word) (s : State) : Result := finish 12 (s.setPair .sp nn)

/-- `LD (HL-),A` (R167). -/
def execLdMemHLDecA (s : State) : Result := finish 8 ((s.storeTo .hl s.regs.a).bumpHl (-1))

/-- `LD (HL),n` (R155). -/
def execLdMemHLN (n : Byte) (s : State) : Result := finish 12 (s.storeTo .hl n)

/-- `LD A,(HL-)` (R166). -/
def execLdAMemHLDec (s : State) : Result := finish 8 ((s.setReg .a (s.loadFrom .hl)).bumpHl (-1))

/-- `LD A,n` (R152). -/
def execLdAN (n : Byte) (s : State) : Result := finish 8 (s.setReg .a n)

/-- `LD B,B` (R151). -/
def execLdBB (s : State) : Result := finish 4 (s.setReg .b (s.reg .b))

/-- `LD B,C` (R151). -/
def execLdBC (s : State) : Result := finish 4 (s.setReg .b (s.reg .c))

/-- `LD B,D` (R151). -/
def execLdBD (s : State) : Result := finish 4 (s.setReg .b (s.reg .d))

/-- `LD B,E` (R151). -/
def execLdBE (s : State) : Result := finish 4 (s.setReg .b (s.reg .e))

/-- `LD B,H` (R151). -/
def execLdBH (s : State) : Result := finish 4 (s.setReg .b (s.reg .h))

/-- `LD B,L` (R151). -/
def execLdBL (s : State) : Result := finish 4 (s.setReg .b (s.reg .l))

/-- `LD B,(HL)` (R153). -/
def execLdBMemHL (s : State) : Result := finish 8 (s.setReg .b (s.loadFrom .hl))

/-- `LD B,A` (R151). -/
def execLdBA (s : State) : Result := finish 4 (s.setReg .b (s.reg .a))

/-- `LD C,B` (R151). -/
def execLdCB (s : State) : Result := finish 4 (s.setReg .c (s.reg .b))

/-- `LD C,C` (R151). -/
def execLdCC (s : State) : Result := finish 4 (s.setReg .c (s.reg .c))

/-- `LD C,D` (R151). -/
def execLdCD (s : State) : Result := finish 4 (s.setReg .c (s.reg .d))

/-- `LD C,E` (R151). -/
def execLdCE (s : State) : Result := finish 4 (s.setReg .c (s.reg .e))

/-- `LD C,H` (R151). -/
def execLdCH (s : State) : Result := finish 4 (s.setReg .c (s.reg .h))

/-- `LD C,L` (R151). -/
def execLdCL (s : State) : Result := finish 4 (s.setReg .c (s.reg .l))

/-- `LD C,(HL)` (R153). -/
def execLdCMemHL (s : State) : Result := finish 8 (s.setReg .c (s.loadFrom .hl))

/-- `LD C,A` (R151). -/
def execLdCA (s : State) : Result := finish 4 (s.setReg .c (s.reg .a))

/-- `LD D,B` (R151). -/
def execLdDB (s : State) : Result := finish 4 (s.setReg .d (s.reg .b))

/-- `LD D,C` (R151). -/
def execLdDC (s : State) : Result := finish 4 (s.setReg .d (s.reg .c))

/-- `LD D,D` (R151). -/
def execLdDD (s : State) : Result := finish 4 (s.setReg .d (s.reg .d))

/-- `LD D,E` (R151). -/
def execLdDE (s : State) : Result := finish 4 (s.setReg .d (s.reg .e))

/-- `LD D,H` (R151). -/
def execLdDH (s : State) : Result := finish 4 (s.setReg .d (s.reg .h))

/-- `LD D,L` (R151). -/
def execLdDL (s : State) : Result := finish 4 (s.setReg .d (s.reg .l))

/-- `LD D,(HL)` (R153). -/
def execLdDMemHL (s : State) : Result := finish 8 (s.setReg .d (s.loadFrom .hl))

/-- `LD D,A` (R151). -/
def execLdDA (s : State) : Result := finish 4 (s.setReg .d (s.reg .a))

/-- `LD E,B` (R151). -/
def execLdEB (s : State) : Result := finish 4 (s.setReg .e (s.reg .b))

/-- `LD E,C` (R151). -/
def execLdEC (s : State) : Result := finish 4 (s.setReg .e (s.reg .c))

/-- `LD E,D` (R151). -/
def execLdED (s : State) : Result := finish 4 (s.setReg .e (s.reg .d))

/-- `LD E,E` (R151). -/
def execLdEE (s : State) : Result := finish 4 (s.setReg .e (s.reg .e))

/-- `LD E,H` (R151). -/
def execLdEH (s : State) : Result := finish 4 (s.setReg .e (s.reg .h))

/-- `LD E,L` (R151). -/
def execLdEL (s : State) : Result := finish 4 (s.setReg .e (s.reg .l))

/-- `LD E,(HL)` (R153). -/
def execLdEMemHL (s : State) : Result := finish 8 (s.setReg .e (s.loadFrom .hl))

/-- `LD E,A` (R151). -/
def execLdEA (s : State) : Result := finish 4 (s.setReg .e (s.reg .a))

/-- `LD H,B` (R151). -/
def execLdHB (s : State) : Result := finish 4 (s.setReg .h (s.reg .b))

/-- `LD H,C` (R151). -/
def execLdHC (s : State) : Result := finish 4 (s.setReg .h (s.reg .c))

/-- `LD H,D` (R151). -/
def execLdHD (s : State) : Result := finish 4 (s.setReg .h (s.reg .d))

/-- `LD H,E` (R151). -/
def execLdHE (s : State) : Result := finish 4 (s.setReg .h (s.reg .e))

/-- `LD H,H` (R151). -/
def execLdHH (s : State) : Result := finish 4 (s.setReg .h (s.reg .h))

/-- `LD H,L` (R151). -/
def execLdHL (s : State) : Result := finish 4 (s.setReg .h (s.reg .l))

/-- `LD H,(HL)` (R153). -/
def execLdHMemHL (s : State) : Result := finish 8 (s.setReg .h (s.loadFrom .hl))

/-- `LD H,A` (R151). -/
def execLdHA (s : State) : Result := finish 4 (s.setReg .h (s.reg .a))

/-- `LD L,B` (R151). -/
def execLdLB (s : State) : Result := finish 4 (s.setReg .l (s.reg .b))

/-- `LD L,C` (R151). -/
def execLdLC (s : State) : Result := finish 4 (s.setReg .l (s.reg .c))

/-- `LD L,D` (R151). -/
def execLdLD (s : State) : Result := finish 4 (s.setReg .l (s.reg .d))

/-- `LD L,E` (R151). -/
def execLdLE (s : State) : Result := finish 4 (s.setReg .l (s.reg .e))

/-- `LD L,H` (R151). -/
def execLdLH (s : State) : Result := finish 4 (s.setReg .l (s.reg .h))

/-- `LD L,L` (R151). -/
def execLdLL (s : State) : Result := finish 4 (s.setReg .l (s.reg .l))

/-- `LD L,(HL)` (R153). -/
def execLdLMemHL (s : State) : Result := finish 8 (s.setReg .l (s.loadFrom .hl))

/-- `LD L,A` (R151). -/
def execLdLA (s : State) : Result := finish 4 (s.setReg .l (s.reg .a))

/-- `LD (HL),B` (R154). -/
def execLdMemHLB (s : State) : Result := finish 8 (s.storeTo .hl (s.reg .b))

/-- `LD (HL),C` (R154). -/
def execLdMemHLC (s : State) : Result := finish 8 (s.storeTo .hl (s.reg .c))

/-- `LD (HL),D` (R154). -/
def execLdMemHLD (s : State) : Result := finish 8 (s.storeTo .hl (s.reg .d))

/-- `LD (HL),E` (R154). -/
def execLdMemHLE (s : State) : Result := finish 8 (s.storeTo .hl (s.reg .e))

/-- `LD (HL),H` (R154). -/
def execLdMemHLH (s : State) : Result := finish 8 (s.storeTo .hl (s.reg .h))

/-- `LD (HL),L` (R154). -/
def execLdMemHLL (s : State) : Result := finish 8 (s.storeTo .hl (s.reg .l))

/-- `LD (HL),A` (R154). -/
def execLdMemHLA (s : State) : Result := finish 8 (s.storeTo .hl (s.reg .a))

/-- `LD A,B` (R151). -/
def execLdAB (s : State) : Result := finish 4 (s.setReg .a (s.reg .b))

/-- `LD A,C` (R151). -/
def execLdAC (s : State) : Result := finish 4 (s.setReg .a (s.reg .c))

/-- `LD A,D` (R151). -/
def execLdAD (s : State) : Result := finish 4 (s.setReg .a (s.reg .d))

/-- `LD A,E` (R151). -/
def execLdAE (s : State) : Result := finish 4 (s.setReg .a (s.reg .e))

/-- `LD A,H` (R151). -/
def execLdAH (s : State) : Result := finish 4 (s.setReg .a (s.reg .h))

/-- `LD A,L` (R151). -/
def execLdAL (s : State) : Result := finish 4 (s.setReg .a (s.reg .l))

/-- `LD A,(HL)` (R153). -/
def execLdAMemHL (s : State) : Result := finish 8 (s.setReg .a (s.loadFrom .hl))

/-- `LD A,A` (R151). -/
def execLdAA (s : State) : Result := finish 4 (s.setReg .a (s.reg .a))

/-- `POP BC` (R173). -/
def execPopBC (s : State) : Result := finish 12 (s.pop .bc)

/-- `PUSH BC` (R172). -/
def execPushBC (s : State) : Result := finish 16 (s.push .bc)

/-- `POP DE` (R173). -/
def execPopDE (s : State) : Result := finish 12 (s.pop .de)

/-- `PUSH DE` (R172). -/
def execPushDE (s : State) : Result := finish 16 (s.push .de)

/-- `LDH (n),A` (R165). -/
def execLdhMemNA (n : Byte) (s : State) : Result := finish 12 (s.storeTo (.high n) (s.reg .a))

/-- `POP HL` (R173). -/
def execPopHL (s : State) : Result := finish 12 (s.pop .hl)

/-- `LDH (C),A` (R163). -/
def execLdhMemCA (s : State) : Result := finish 8 (s.storeTo .highC (s.reg .a))

/-- `PUSH HL` (R172). -/
def execPushHL (s : State) : Result := finish 16 (s.push .hl)

/-- `LD (nn),A` (R161). -/
def execLdMemNNA (nn : Word) (s : State) : Result := finish 16 (s.storeTo (.abs nn) (s.reg .a))

/-- `LDH A,(n)` (R164). -/
def execLdhAMemN (n : Byte) (s : State) : Result := finish 12 (s.setReg .a (s.loadFrom (.high n)))

/-- `POP AF` (R174). -/
def execPopAF (s : State) : Result := finish 12 (s.pop .af)

/-- `LDH A,(C)` (R162). -/
def execLdhAMemC (s : State) : Result := finish 8 (s.setReg .a (s.loadFrom .highC))

/-- `PUSH AF` (R172). -/
def execPushAF (s : State) : Result := finish 16 (s.push .af)

/-- `LD SP,HL` (R175). -/
def execLdSPHL (s : State) : Result := finish 8 (s.setPair .sp (s.pair .hl))

/-- `LD A,(nn)` (R160). -/
def execLdAMemNN (nn : Word) (s : State) : Result := finish 16 (s.setReg .a (s.loadFrom (.abs nn)))

end Sys2Proof.Machine
end

