-- ==== Sys2Proof/Machine/RotateShiftBit.lean ====
section
/-! DEFINITION. Rotates, shifts and bit operations (43_rotate_shift_bit.md): one meaning per instruction. A meaning starts after every byte of the
instruction is fetched, with PC past them (00_scope R14, 44_control R280), and answers the next state with the
cycles the step reports (30_encoding R138). -/

namespace Sys2Proof.Machine

/-- `RLCA` (R251). -/
def execRlca (s : State) : Result := finish 4 (s.rotateA .rlc)

/-- `RRCA` (R252). -/
def execRrca (s : State) : Result := finish 4 (s.rotateA .rrc)

/-- `RLA` (R253). -/
def execRla (s : State) : Result := finish 4 (s.rotateA .rl)

/-- `RRA` (R254). -/
def execRra (s : State) : Result := finish 4 (s.rotateA .rr)

/-- `RLC B` (R255). -/
def execRlcB (s : State) : Result := finish 8 (s.shiftLoc .rlc (.reg .b))

/-- `RLC C` (R255). -/
def execRlcC (s : State) : Result := finish 8 (s.shiftLoc .rlc (.reg .c))

/-- `RLC D` (R255). -/
def execRlcD (s : State) : Result := finish 8 (s.shiftLoc .rlc (.reg .d))

/-- `RLC E` (R255). -/
def execRlcE (s : State) : Result := finish 8 (s.shiftLoc .rlc (.reg .e))

/-- `RLC H` (R255). -/
def execRlcH (s : State) : Result := finish 8 (s.shiftLoc .rlc (.reg .h))

/-- `RLC L` (R255). -/
def execRlcL (s : State) : Result := finish 8 (s.shiftLoc .rlc (.reg .l))

/-- `RLC (HL)` (R256). -/
def execRlcMemHL (s : State) : Result := finish 16 (s.shiftLoc .rlc .memHL)

/-- `RLC A` (R255). -/
def execRlcA (s : State) : Result := finish 8 (s.shiftLoc .rlc (.reg .a))

/-- `RRC B` (R257). -/
def execRrcB (s : State) : Result := finish 8 (s.shiftLoc .rrc (.reg .b))

/-- `RRC C` (R257). -/
def execRrcC (s : State) : Result := finish 8 (s.shiftLoc .rrc (.reg .c))

/-- `RRC D` (R257). -/
def execRrcD (s : State) : Result := finish 8 (s.shiftLoc .rrc (.reg .d))

/-- `RRC E` (R257). -/
def execRrcE (s : State) : Result := finish 8 (s.shiftLoc .rrc (.reg .e))

/-- `RRC H` (R257). -/
def execRrcH (s : State) : Result := finish 8 (s.shiftLoc .rrc (.reg .h))

/-- `RRC L` (R257). -/
def execRrcL (s : State) : Result := finish 8 (s.shiftLoc .rrc (.reg .l))

/-- `RRC (HL)` (R258). -/
def execRrcMemHL (s : State) : Result := finish 16 (s.shiftLoc .rrc .memHL)

/-- `RRC A` (R257). -/
def execRrcA (s : State) : Result := finish 8 (s.shiftLoc .rrc (.reg .a))

/-- `RL B` (R259). -/
def execRlB (s : State) : Result := finish 8 (s.shiftLoc .rl (.reg .b))

/-- `RL C` (R259). -/
def execRlC (s : State) : Result := finish 8 (s.shiftLoc .rl (.reg .c))

/-- `RL D` (R259). -/
def execRlD (s : State) : Result := finish 8 (s.shiftLoc .rl (.reg .d))

/-- `RL E` (R259). -/
def execRlE (s : State) : Result := finish 8 (s.shiftLoc .rl (.reg .e))

/-- `RL H` (R259). -/
def execRlH (s : State) : Result := finish 8 (s.shiftLoc .rl (.reg .h))

/-- `RL L` (R259). -/
def execRlL (s : State) : Result := finish 8 (s.shiftLoc .rl (.reg .l))

/-- `RL (HL)` (R260). -/
def execRlMemHL (s : State) : Result := finish 16 (s.shiftLoc .rl .memHL)

/-- `RL A` (R259). -/
def execRlA (s : State) : Result := finish 8 (s.shiftLoc .rl (.reg .a))

/-- `RR B` (R261). -/
def execRrB (s : State) : Result := finish 8 (s.shiftLoc .rr (.reg .b))

/-- `RR C` (R261). -/
def execRrC (s : State) : Result := finish 8 (s.shiftLoc .rr (.reg .c))

/-- `RR D` (R261). -/
def execRrD (s : State) : Result := finish 8 (s.shiftLoc .rr (.reg .d))

/-- `RR E` (R261). -/
def execRrE (s : State) : Result := finish 8 (s.shiftLoc .rr (.reg .e))

/-- `RR H` (R261). -/
def execRrH (s : State) : Result := finish 8 (s.shiftLoc .rr (.reg .h))

/-- `RR L` (R261). -/
def execRrL (s : State) : Result := finish 8 (s.shiftLoc .rr (.reg .l))

/-- `RR (HL)` (R262). -/
def execRrMemHL (s : State) : Result := finish 16 (s.shiftLoc .rr .memHL)

/-- `RR A` (R261). -/
def execRrA (s : State) : Result := finish 8 (s.shiftLoc .rr (.reg .a))

/-- `SLA B` (R263). -/
def execSlaB (s : State) : Result := finish 8 (s.shiftLoc .sla (.reg .b))

/-- `SLA C` (R263). -/
def execSlaC (s : State) : Result := finish 8 (s.shiftLoc .sla (.reg .c))

/-- `SLA D` (R263). -/
def execSlaD (s : State) : Result := finish 8 (s.shiftLoc .sla (.reg .d))

/-- `SLA E` (R263). -/
def execSlaE (s : State) : Result := finish 8 (s.shiftLoc .sla (.reg .e))

/-- `SLA H` (R263). -/
def execSlaH (s : State) : Result := finish 8 (s.shiftLoc .sla (.reg .h))

/-- `SLA L` (R263). -/
def execSlaL (s : State) : Result := finish 8 (s.shiftLoc .sla (.reg .l))

/-- `SLA (HL)` (R264). -/
def execSlaMemHL (s : State) : Result := finish 16 (s.shiftLoc .sla .memHL)

/-- `SLA A` (R263). -/
def execSlaA (s : State) : Result := finish 8 (s.shiftLoc .sla (.reg .a))

/-- `SRA B` (R265). -/
def execSraB (s : State) : Result := finish 8 (s.shiftLoc .sra (.reg .b))

/-- `SRA C` (R265). -/
def execSraC (s : State) : Result := finish 8 (s.shiftLoc .sra (.reg .c))

/-- `SRA D` (R265). -/
def execSraD (s : State) : Result := finish 8 (s.shiftLoc .sra (.reg .d))

/-- `SRA E` (R265). -/
def execSraE (s : State) : Result := finish 8 (s.shiftLoc .sra (.reg .e))

/-- `SRA H` (R265). -/
def execSraH (s : State) : Result := finish 8 (s.shiftLoc .sra (.reg .h))

/-- `SRA L` (R265). -/
def execSraL (s : State) : Result := finish 8 (s.shiftLoc .sra (.reg .l))

/-- `SRA (HL)` (R266). -/
def execSraMemHL (s : State) : Result := finish 16 (s.shiftLoc .sra .memHL)

/-- `SRA A` (R265). -/
def execSraA (s : State) : Result := finish 8 (s.shiftLoc .sra (.reg .a))

/-- `SWAP B` (R267). -/
def execSwapB (s : State) : Result := finish 8 (s.shiftLoc .swap (.reg .b))

/-- `SWAP C` (R267). -/
def execSwapC (s : State) : Result := finish 8 (s.shiftLoc .swap (.reg .c))

/-- `SWAP D` (R267). -/
def execSwapD (s : State) : Result := finish 8 (s.shiftLoc .swap (.reg .d))

/-- `SWAP E` (R267). -/
def execSwapE (s : State) : Result := finish 8 (s.shiftLoc .swap (.reg .e))

/-- `SWAP H` (R267). -/
def execSwapH (s : State) : Result := finish 8 (s.shiftLoc .swap (.reg .h))

/-- `SWAP L` (R267). -/
def execSwapL (s : State) : Result := finish 8 (s.shiftLoc .swap (.reg .l))

/-- `SWAP (HL)` (R268). -/
def execSwapMemHL (s : State) : Result := finish 16 (s.shiftLoc .swap .memHL)

/-- `SWAP A` (R267). -/
def execSwapA (s : State) : Result := finish 8 (s.shiftLoc .swap (.reg .a))

/-- `SRL B` (R269). -/
def execSrlB (s : State) : Result := finish 8 (s.shiftLoc .srl (.reg .b))

/-- `SRL C` (R269). -/
def execSrlC (s : State) : Result := finish 8 (s.shiftLoc .srl (.reg .c))

/-- `SRL D` (R269). -/
def execSrlD (s : State) : Result := finish 8 (s.shiftLoc .srl (.reg .d))

/-- `SRL E` (R269). -/
def execSrlE (s : State) : Result := finish 8 (s.shiftLoc .srl (.reg .e))

/-- `SRL H` (R269). -/
def execSrlH (s : State) : Result := finish 8 (s.shiftLoc .srl (.reg .h))

/-- `SRL L` (R269). -/
def execSrlL (s : State) : Result := finish 8 (s.shiftLoc .srl (.reg .l))

/-- `SRL (HL)` (R270). -/
def execSrlMemHL (s : State) : Result := finish 16 (s.shiftLoc .srl .memHL)

/-- `SRL A` (R269). -/
def execSrlA (s : State) : Result := finish 8 (s.shiftLoc .srl (.reg .a))

/-- `BIT 0,B` (R271). -/
def execBit0B (s : State) : Result := finish 8 (s.testBit 0 (.reg .b))

/-- `BIT 0,C` (R271). -/
def execBit0C (s : State) : Result := finish 8 (s.testBit 0 (.reg .c))

/-- `BIT 0,D` (R271). -/
def execBit0D (s : State) : Result := finish 8 (s.testBit 0 (.reg .d))

/-- `BIT 0,E` (R271). -/
def execBit0E (s : State) : Result := finish 8 (s.testBit 0 (.reg .e))

/-- `BIT 0,H` (R271). -/
def execBit0H (s : State) : Result := finish 8 (s.testBit 0 (.reg .h))

/-- `BIT 0,L` (R271). -/
def execBit0L (s : State) : Result := finish 8 (s.testBit 0 (.reg .l))

/-- `BIT 0,(HL)` (R272). -/
def execBit0MemHL (s : State) : Result := finish 12 (s.testBit 0 .memHL)

/-- `BIT 0,A` (R271). -/
def execBit0A (s : State) : Result := finish 8 (s.testBit 0 (.reg .a))

/-- `BIT 1,B` (R271). -/
def execBit1B (s : State) : Result := finish 8 (s.testBit 1 (.reg .b))

/-- `BIT 1,C` (R271). -/
def execBit1C (s : State) : Result := finish 8 (s.testBit 1 (.reg .c))

/-- `BIT 1,D` (R271). -/
def execBit1D (s : State) : Result := finish 8 (s.testBit 1 (.reg .d))

/-- `BIT 1,E` (R271). -/
def execBit1E (s : State) : Result := finish 8 (s.testBit 1 (.reg .e))

/-- `BIT 1,H` (R271). -/
def execBit1H (s : State) : Result := finish 8 (s.testBit 1 (.reg .h))

/-- `BIT 1,L` (R271). -/
def execBit1L (s : State) : Result := finish 8 (s.testBit 1 (.reg .l))

/-- `BIT 1,(HL)` (R272). -/
def execBit1MemHL (s : State) : Result := finish 12 (s.testBit 1 .memHL)

/-- `BIT 1,A` (R271). -/
def execBit1A (s : State) : Result := finish 8 (s.testBit 1 (.reg .a))

/-- `BIT 2,B` (R271). -/
def execBit2B (s : State) : Result := finish 8 (s.testBit 2 (.reg .b))

/-- `BIT 2,C` (R271). -/
def execBit2C (s : State) : Result := finish 8 (s.testBit 2 (.reg .c))

/-- `BIT 2,D` (R271). -/
def execBit2D (s : State) : Result := finish 8 (s.testBit 2 (.reg .d))

/-- `BIT 2,E` (R271). -/
def execBit2E (s : State) : Result := finish 8 (s.testBit 2 (.reg .e))

/-- `BIT 2,H` (R271). -/
def execBit2H (s : State) : Result := finish 8 (s.testBit 2 (.reg .h))

/-- `BIT 2,L` (R271). -/
def execBit2L (s : State) : Result := finish 8 (s.testBit 2 (.reg .l))

/-- `BIT 2,(HL)` (R272). -/
def execBit2MemHL (s : State) : Result := finish 12 (s.testBit 2 .memHL)

/-- `BIT 2,A` (R271). -/
def execBit2A (s : State) : Result := finish 8 (s.testBit 2 (.reg .a))

/-- `BIT 3,B` (R271). -/
def execBit3B (s : State) : Result := finish 8 (s.testBit 3 (.reg .b))

/-- `BIT 3,C` (R271). -/
def execBit3C (s : State) : Result := finish 8 (s.testBit 3 (.reg .c))

/-- `BIT 3,D` (R271). -/
def execBit3D (s : State) : Result := finish 8 (s.testBit 3 (.reg .d))

/-- `BIT 3,E` (R271). -/
def execBit3E (s : State) : Result := finish 8 (s.testBit 3 (.reg .e))

/-- `BIT 3,H` (R271). -/
def execBit3H (s : State) : Result := finish 8 (s.testBit 3 (.reg .h))

/-- `BIT 3,L` (R271). -/
def execBit3L (s : State) : Result := finish 8 (s.testBit 3 (.reg .l))

/-- `BIT 3,(HL)` (R272). -/
def execBit3MemHL (s : State) : Result := finish 12 (s.testBit 3 .memHL)

/-- `BIT 3,A` (R271). -/
def execBit3A (s : State) : Result := finish 8 (s.testBit 3 (.reg .a))

/-- `BIT 4,B` (R271). -/
def execBit4B (s : State) : Result := finish 8 (s.testBit 4 (.reg .b))

/-- `BIT 4,C` (R271). -/
def execBit4C (s : State) : Result := finish 8 (s.testBit 4 (.reg .c))

/-- `BIT 4,D` (R271). -/
def execBit4D (s : State) : Result := finish 8 (s.testBit 4 (.reg .d))

/-- `BIT 4,E` (R271). -/
def execBit4E (s : State) : Result := finish 8 (s.testBit 4 (.reg .e))

/-- `BIT 4,H` (R271). -/
def execBit4H (s : State) : Result := finish 8 (s.testBit 4 (.reg .h))

/-- `BIT 4,L` (R271). -/
def execBit4L (s : State) : Result := finish 8 (s.testBit 4 (.reg .l))

/-- `BIT 4,(HL)` (R272). -/
def execBit4MemHL (s : State) : Result := finish 12 (s.testBit 4 .memHL)

/-- `BIT 4,A` (R271). -/
def execBit4A (s : State) : Result := finish 8 (s.testBit 4 (.reg .a))

/-- `BIT 5,B` (R271). -/
def execBit5B (s : State) : Result := finish 8 (s.testBit 5 (.reg .b))

/-- `BIT 5,C` (R271). -/
def execBit5C (s : State) : Result := finish 8 (s.testBit 5 (.reg .c))

/-- `BIT 5,D` (R271). -/
def execBit5D (s : State) : Result := finish 8 (s.testBit 5 (.reg .d))

/-- `BIT 5,E` (R271). -/
def execBit5E (s : State) : Result := finish 8 (s.testBit 5 (.reg .e))

/-- `BIT 5,H` (R271). -/
def execBit5H (s : State) : Result := finish 8 (s.testBit 5 (.reg .h))

/-- `BIT 5,L` (R271). -/
def execBit5L (s : State) : Result := finish 8 (s.testBit 5 (.reg .l))

/-- `BIT 5,(HL)` (R272). -/
def execBit5MemHL (s : State) : Result := finish 12 (s.testBit 5 .memHL)

/-- `BIT 5,A` (R271). -/
def execBit5A (s : State) : Result := finish 8 (s.testBit 5 (.reg .a))

/-- `BIT 6,B` (R271). -/
def execBit6B (s : State) : Result := finish 8 (s.testBit 6 (.reg .b))

/-- `BIT 6,C` (R271). -/
def execBit6C (s : State) : Result := finish 8 (s.testBit 6 (.reg .c))

/-- `BIT 6,D` (R271). -/
def execBit6D (s : State) : Result := finish 8 (s.testBit 6 (.reg .d))

/-- `BIT 6,E` (R271). -/
def execBit6E (s : State) : Result := finish 8 (s.testBit 6 (.reg .e))

/-- `BIT 6,H` (R271). -/
def execBit6H (s : State) : Result := finish 8 (s.testBit 6 (.reg .h))

/-- `BIT 6,L` (R271). -/
def execBit6L (s : State) : Result := finish 8 (s.testBit 6 (.reg .l))

/-- `BIT 6,(HL)` (R272). -/
def execBit6MemHL (s : State) : Result := finish 12 (s.testBit 6 .memHL)

/-- `BIT 6,A` (R271). -/
def execBit6A (s : State) : Result := finish 8 (s.testBit 6 (.reg .a))

/-- `BIT 7,B` (R271). -/
def execBit7B (s : State) : Result := finish 8 (s.testBit 7 (.reg .b))

/-- `BIT 7,C` (R271). -/
def execBit7C (s : State) : Result := finish 8 (s.testBit 7 (.reg .c))

/-- `BIT 7,D` (R271). -/
def execBit7D (s : State) : Result := finish 8 (s.testBit 7 (.reg .d))

/-- `BIT 7,E` (R271). -/
def execBit7E (s : State) : Result := finish 8 (s.testBit 7 (.reg .e))

/-- `BIT 7,H` (R271). -/
def execBit7H (s : State) : Result := finish 8 (s.testBit 7 (.reg .h))

/-- `BIT 7,L` (R271). -/
def execBit7L (s : State) : Result := finish 8 (s.testBit 7 (.reg .l))

/-- `BIT 7,(HL)` (R272). -/
def execBit7MemHL (s : State) : Result := finish 12 (s.testBit 7 .memHL)

/-- `BIT 7,A` (R271). -/
def execBit7A (s : State) : Result := finish 8 (s.testBit 7 (.reg .a))

/-- `RES 0,B` (R273). -/
def execRes0B (s : State) : Result := finish 8 (s.resetBit 0 (.reg .b))

/-- `RES 0,C` (R273). -/
def execRes0C (s : State) : Result := finish 8 (s.resetBit 0 (.reg .c))

/-- `RES 0,D` (R273). -/
def execRes0D (s : State) : Result := finish 8 (s.resetBit 0 (.reg .d))

/-- `RES 0,E` (R273). -/
def execRes0E (s : State) : Result := finish 8 (s.resetBit 0 (.reg .e))

/-- `RES 0,H` (R273). -/
def execRes0H (s : State) : Result := finish 8 (s.resetBit 0 (.reg .h))

/-- `RES 0,L` (R273). -/
def execRes0L (s : State) : Result := finish 8 (s.resetBit 0 (.reg .l))

/-- `RES 0,(HL)` (R274). -/
def execRes0MemHL (s : State) : Result := finish 16 (s.resetBit 0 .memHL)

/-- `RES 0,A` (R273). -/
def execRes0A (s : State) : Result := finish 8 (s.resetBit 0 (.reg .a))

/-- `RES 1,B` (R273). -/
def execRes1B (s : State) : Result := finish 8 (s.resetBit 1 (.reg .b))

/-- `RES 1,C` (R273). -/
def execRes1C (s : State) : Result := finish 8 (s.resetBit 1 (.reg .c))

/-- `RES 1,D` (R273). -/
def execRes1D (s : State) : Result := finish 8 (s.resetBit 1 (.reg .d))

/-- `RES 1,E` (R273). -/
def execRes1E (s : State) : Result := finish 8 (s.resetBit 1 (.reg .e))

/-- `RES 1,H` (R273). -/
def execRes1H (s : State) : Result := finish 8 (s.resetBit 1 (.reg .h))

/-- `RES 1,L` (R273). -/
def execRes1L (s : State) : Result := finish 8 (s.resetBit 1 (.reg .l))

/-- `RES 1,(HL)` (R274). -/
def execRes1MemHL (s : State) : Result := finish 16 (s.resetBit 1 .memHL)

/-- `RES 1,A` (R273). -/
def execRes1A (s : State) : Result := finish 8 (s.resetBit 1 (.reg .a))

/-- `RES 2,B` (R273). -/
def execRes2B (s : State) : Result := finish 8 (s.resetBit 2 (.reg .b))

/-- `RES 2,C` (R273). -/
def execRes2C (s : State) : Result := finish 8 (s.resetBit 2 (.reg .c))

/-- `RES 2,D` (R273). -/
def execRes2D (s : State) : Result := finish 8 (s.resetBit 2 (.reg .d))

/-- `RES 2,E` (R273). -/
def execRes2E (s : State) : Result := finish 8 (s.resetBit 2 (.reg .e))

/-- `RES 2,H` (R273). -/
def execRes2H (s : State) : Result := finish 8 (s.resetBit 2 (.reg .h))

/-- `RES 2,L` (R273). -/
def execRes2L (s : State) : Result := finish 8 (s.resetBit 2 (.reg .l))

/-- `RES 2,(HL)` (R274). -/
def execRes2MemHL (s : State) : Result := finish 16 (s.resetBit 2 .memHL)

/-- `RES 2,A` (R273). -/
def execRes2A (s : State) : Result := finish 8 (s.resetBit 2 (.reg .a))

/-- `RES 3,B` (R273). -/
def execRes3B (s : State) : Result := finish 8 (s.resetBit 3 (.reg .b))

/-- `RES 3,C` (R273). -/
def execRes3C (s : State) : Result := finish 8 (s.resetBit 3 (.reg .c))

/-- `RES 3,D` (R273). -/
def execRes3D (s : State) : Result := finish 8 (s.resetBit 3 (.reg .d))

/-- `RES 3,E` (R273). -/
def execRes3E (s : State) : Result := finish 8 (s.resetBit 3 (.reg .e))

/-- `RES 3,H` (R273). -/
def execRes3H (s : State) : Result := finish 8 (s.resetBit 3 (.reg .h))

/-- `RES 3,L` (R273). -/
def execRes3L (s : State) : Result := finish 8 (s.resetBit 3 (.reg .l))

/-- `RES 3,(HL)` (R274). -/
def execRes3MemHL (s : State) : Result := finish 16 (s.resetBit 3 .memHL)

/-- `RES 3,A` (R273). -/
def execRes3A (s : State) : Result := finish 8 (s.resetBit 3 (.reg .a))

/-- `RES 4,B` (R273). -/
def execRes4B (s : State) : Result := finish 8 (s.resetBit 4 (.reg .b))

/-- `RES 4,C` (R273). -/
def execRes4C (s : State) : Result := finish 8 (s.resetBit 4 (.reg .c))

/-- `RES 4,D` (R273). -/
def execRes4D (s : State) : Result := finish 8 (s.resetBit 4 (.reg .d))

/-- `RES 4,E` (R273). -/
def execRes4E (s : State) : Result := finish 8 (s.resetBit 4 (.reg .e))

/-- `RES 4,H` (R273). -/
def execRes4H (s : State) : Result := finish 8 (s.resetBit 4 (.reg .h))

/-- `RES 4,L` (R273). -/
def execRes4L (s : State) : Result := finish 8 (s.resetBit 4 (.reg .l))

/-- `RES 4,(HL)` (R274). -/
def execRes4MemHL (s : State) : Result := finish 16 (s.resetBit 4 .memHL)

/-- `RES 4,A` (R273). -/
def execRes4A (s : State) : Result := finish 8 (s.resetBit 4 (.reg .a))

/-- `RES 5,B` (R273). -/
def execRes5B (s : State) : Result := finish 8 (s.resetBit 5 (.reg .b))

/-- `RES 5,C` (R273). -/
def execRes5C (s : State) : Result := finish 8 (s.resetBit 5 (.reg .c))

/-- `RES 5,D` (R273). -/
def execRes5D (s : State) : Result := finish 8 (s.resetBit 5 (.reg .d))

/-- `RES 5,E` (R273). -/
def execRes5E (s : State) : Result := finish 8 (s.resetBit 5 (.reg .e))

/-- `RES 5,H` (R273). -/
def execRes5H (s : State) : Result := finish 8 (s.resetBit 5 (.reg .h))

/-- `RES 5,L` (R273). -/
def execRes5L (s : State) : Result := finish 8 (s.resetBit 5 (.reg .l))

/-- `RES 5,(HL)` (R274). -/
def execRes5MemHL (s : State) : Result := finish 16 (s.resetBit 5 .memHL)

/-- `RES 5,A` (R273). -/
def execRes5A (s : State) : Result := finish 8 (s.resetBit 5 (.reg .a))

/-- `RES 6,B` (R273). -/
def execRes6B (s : State) : Result := finish 8 (s.resetBit 6 (.reg .b))

/-- `RES 6,C` (R273). -/
def execRes6C (s : State) : Result := finish 8 (s.resetBit 6 (.reg .c))

/-- `RES 6,D` (R273). -/
def execRes6D (s : State) : Result := finish 8 (s.resetBit 6 (.reg .d))

/-- `RES 6,E` (R273). -/
def execRes6E (s : State) : Result := finish 8 (s.resetBit 6 (.reg .e))

/-- `RES 6,H` (R273). -/
def execRes6H (s : State) : Result := finish 8 (s.resetBit 6 (.reg .h))

/-- `RES 6,L` (R273). -/
def execRes6L (s : State) : Result := finish 8 (s.resetBit 6 (.reg .l))

/-- `RES 6,(HL)` (R274). -/
def execRes6MemHL (s : State) : Result := finish 16 (s.resetBit 6 .memHL)

/-- `RES 6,A` (R273). -/
def execRes6A (s : State) : Result := finish 8 (s.resetBit 6 (.reg .a))

/-- `RES 7,B` (R273). -/
def execRes7B (s : State) : Result := finish 8 (s.resetBit 7 (.reg .b))

/-- `RES 7,C` (R273). -/
def execRes7C (s : State) : Result := finish 8 (s.resetBit 7 (.reg .c))

/-- `RES 7,D` (R273). -/
def execRes7D (s : State) : Result := finish 8 (s.resetBit 7 (.reg .d))

/-- `RES 7,E` (R273). -/
def execRes7E (s : State) : Result := finish 8 (s.resetBit 7 (.reg .e))

/-- `RES 7,H` (R273). -/
def execRes7H (s : State) : Result := finish 8 (s.resetBit 7 (.reg .h))

/-- `RES 7,L` (R273). -/
def execRes7L (s : State) : Result := finish 8 (s.resetBit 7 (.reg .l))

/-- `RES 7,(HL)` (R274). -/
def execRes7MemHL (s : State) : Result := finish 16 (s.resetBit 7 .memHL)

/-- `RES 7,A` (R273). -/
def execRes7A (s : State) : Result := finish 8 (s.resetBit 7 (.reg .a))

/-- `SET 0,B` (R275). -/
def execSet0B (s : State) : Result := finish 8 (s.setBit 0 (.reg .b))

/-- `SET 0,C` (R275). -/
def execSet0C (s : State) : Result := finish 8 (s.setBit 0 (.reg .c))

/-- `SET 0,D` (R275). -/
def execSet0D (s : State) : Result := finish 8 (s.setBit 0 (.reg .d))

/-- `SET 0,E` (R275). -/
def execSet0E (s : State) : Result := finish 8 (s.setBit 0 (.reg .e))

/-- `SET 0,H` (R275). -/
def execSet0H (s : State) : Result := finish 8 (s.setBit 0 (.reg .h))

/-- `SET 0,L` (R275). -/
def execSet0L (s : State) : Result := finish 8 (s.setBit 0 (.reg .l))

/-- `SET 0,(HL)` (R276). -/
def execSet0MemHL (s : State) : Result := finish 16 (s.setBit 0 .memHL)

/-- `SET 0,A` (R275). -/
def execSet0A (s : State) : Result := finish 8 (s.setBit 0 (.reg .a))

/-- `SET 1,B` (R275). -/
def execSet1B (s : State) : Result := finish 8 (s.setBit 1 (.reg .b))

/-- `SET 1,C` (R275). -/
def execSet1C (s : State) : Result := finish 8 (s.setBit 1 (.reg .c))

/-- `SET 1,D` (R275). -/
def execSet1D (s : State) : Result := finish 8 (s.setBit 1 (.reg .d))

/-- `SET 1,E` (R275). -/
def execSet1E (s : State) : Result := finish 8 (s.setBit 1 (.reg .e))

/-- `SET 1,H` (R275). -/
def execSet1H (s : State) : Result := finish 8 (s.setBit 1 (.reg .h))

/-- `SET 1,L` (R275). -/
def execSet1L (s : State) : Result := finish 8 (s.setBit 1 (.reg .l))

/-- `SET 1,(HL)` (R276). -/
def execSet1MemHL (s : State) : Result := finish 16 (s.setBit 1 .memHL)

/-- `SET 1,A` (R275). -/
def execSet1A (s : State) : Result := finish 8 (s.setBit 1 (.reg .a))

/-- `SET 2,B` (R275). -/
def execSet2B (s : State) : Result := finish 8 (s.setBit 2 (.reg .b))

/-- `SET 2,C` (R275). -/
def execSet2C (s : State) : Result := finish 8 (s.setBit 2 (.reg .c))

/-- `SET 2,D` (R275). -/
def execSet2D (s : State) : Result := finish 8 (s.setBit 2 (.reg .d))

/-- `SET 2,E` (R275). -/
def execSet2E (s : State) : Result := finish 8 (s.setBit 2 (.reg .e))

/-- `SET 2,H` (R275). -/
def execSet2H (s : State) : Result := finish 8 (s.setBit 2 (.reg .h))

/-- `SET 2,L` (R275). -/
def execSet2L (s : State) : Result := finish 8 (s.setBit 2 (.reg .l))

/-- `SET 2,(HL)` (R276). -/
def execSet2MemHL (s : State) : Result := finish 16 (s.setBit 2 .memHL)

/-- `SET 2,A` (R275). -/
def execSet2A (s : State) : Result := finish 8 (s.setBit 2 (.reg .a))

/-- `SET 3,B` (R275). -/
def execSet3B (s : State) : Result := finish 8 (s.setBit 3 (.reg .b))

/-- `SET 3,C` (R275). -/
def execSet3C (s : State) : Result := finish 8 (s.setBit 3 (.reg .c))

/-- `SET 3,D` (R275). -/
def execSet3D (s : State) : Result := finish 8 (s.setBit 3 (.reg .d))

/-- `SET 3,E` (R275). -/
def execSet3E (s : State) : Result := finish 8 (s.setBit 3 (.reg .e))

/-- `SET 3,H` (R275). -/
def execSet3H (s : State) : Result := finish 8 (s.setBit 3 (.reg .h))

/-- `SET 3,L` (R275). -/
def execSet3L (s : State) : Result := finish 8 (s.setBit 3 (.reg .l))

/-- `SET 3,(HL)` (R276). -/
def execSet3MemHL (s : State) : Result := finish 16 (s.setBit 3 .memHL)

/-- `SET 3,A` (R275). -/
def execSet3A (s : State) : Result := finish 8 (s.setBit 3 (.reg .a))

/-- `SET 4,B` (R275). -/
def execSet4B (s : State) : Result := finish 8 (s.setBit 4 (.reg .b))

/-- `SET 4,C` (R275). -/
def execSet4C (s : State) : Result := finish 8 (s.setBit 4 (.reg .c))

/-- `SET 4,D` (R275). -/
def execSet4D (s : State) : Result := finish 8 (s.setBit 4 (.reg .d))

/-- `SET 4,E` (R275). -/
def execSet4E (s : State) : Result := finish 8 (s.setBit 4 (.reg .e))

/-- `SET 4,H` (R275). -/
def execSet4H (s : State) : Result := finish 8 (s.setBit 4 (.reg .h))

/-- `SET 4,L` (R275). -/
def execSet4L (s : State) : Result := finish 8 (s.setBit 4 (.reg .l))

/-- `SET 4,(HL)` (R276). -/
def execSet4MemHL (s : State) : Result := finish 16 (s.setBit 4 .memHL)

/-- `SET 4,A` (R275). -/
def execSet4A (s : State) : Result := finish 8 (s.setBit 4 (.reg .a))

/-- `SET 5,B` (R275). -/
def execSet5B (s : State) : Result := finish 8 (s.setBit 5 (.reg .b))

/-- `SET 5,C` (R275). -/
def execSet5C (s : State) : Result := finish 8 (s.setBit 5 (.reg .c))

/-- `SET 5,D` (R275). -/
def execSet5D (s : State) : Result := finish 8 (s.setBit 5 (.reg .d))

/-- `SET 5,E` (R275). -/
def execSet5E (s : State) : Result := finish 8 (s.setBit 5 (.reg .e))

/-- `SET 5,H` (R275). -/
def execSet5H (s : State) : Result := finish 8 (s.setBit 5 (.reg .h))

/-- `SET 5,L` (R275). -/
def execSet5L (s : State) : Result := finish 8 (s.setBit 5 (.reg .l))

/-- `SET 5,(HL)` (R276). -/
def execSet5MemHL (s : State) : Result := finish 16 (s.setBit 5 .memHL)

/-- `SET 5,A` (R275). -/
def execSet5A (s : State) : Result := finish 8 (s.setBit 5 (.reg .a))

/-- `SET 6,B` (R275). -/
def execSet6B (s : State) : Result := finish 8 (s.setBit 6 (.reg .b))

/-- `SET 6,C` (R275). -/
def execSet6C (s : State) : Result := finish 8 (s.setBit 6 (.reg .c))

/-- `SET 6,D` (R275). -/
def execSet6D (s : State) : Result := finish 8 (s.setBit 6 (.reg .d))

/-- `SET 6,E` (R275). -/
def execSet6E (s : State) : Result := finish 8 (s.setBit 6 (.reg .e))

/-- `SET 6,H` (R275). -/
def execSet6H (s : State) : Result := finish 8 (s.setBit 6 (.reg .h))

/-- `SET 6,L` (R275). -/
def execSet6L (s : State) : Result := finish 8 (s.setBit 6 (.reg .l))

/-- `SET 6,(HL)` (R276). -/
def execSet6MemHL (s : State) : Result := finish 16 (s.setBit 6 .memHL)

/-- `SET 6,A` (R275). -/
def execSet6A (s : State) : Result := finish 8 (s.setBit 6 (.reg .a))

/-- `SET 7,B` (R275). -/
def execSet7B (s : State) : Result := finish 8 (s.setBit 7 (.reg .b))

/-- `SET 7,C` (R275). -/
def execSet7C (s : State) : Result := finish 8 (s.setBit 7 (.reg .c))

/-- `SET 7,D` (R275). -/
def execSet7D (s : State) : Result := finish 8 (s.setBit 7 (.reg .d))

/-- `SET 7,E` (R275). -/
def execSet7E (s : State) : Result := finish 8 (s.setBit 7 (.reg .e))

/-- `SET 7,H` (R275). -/
def execSet7H (s : State) : Result := finish 8 (s.setBit 7 (.reg .h))

/-- `SET 7,L` (R275). -/
def execSet7L (s : State) : Result := finish 8 (s.setBit 7 (.reg .l))

/-- `SET 7,(HL)` (R276). -/
def execSet7MemHL (s : State) : Result := finish 16 (s.setBit 7 .memHL)

/-- `SET 7,A` (R275). -/
def execSet7A (s : State) : Result := finish 8 (s.setBit 7 (.reg .a))

end Sys2Proof.Machine
end

