-- ==== Sys2Proof/Machine/System.lean ====
section
/-! DEFINITION. System and interrupt-control instructions (45_system.md): one meaning per instruction. A meaning starts after every byte of the
instruction is fetched, with PC past them (00_scope R14, 44_control R280), and answers the next state with the
cycles the step reports (30_encoding R138). -/

namespace Sys2Proof.Machine

/-- HALT's effect (45_system R311): it halts unless IME = 0 and an enabled request is set already; then
HALT_BUG is set instead. -/
def State.halt (s : State) : State :=
  if s.ime || s.pendingMask == 0 then { s with run := .halted } else { s with haltBug := true }

/-- STOP's effect (45_system R312). -/
def State.stop (s : State) : State := { s with timer := s.timer.resetDiv, run := .stopped }

/-- EI's effect (45_system R314): it starts the delay unless IME is set or an enable is in flight. -/
def State.enableInterrupts (s : State) : State :=
  if s.ime = false ∧ s.eiDelay = 0 then { s with eiDelay := 2 } else s

/-- `NOP` (R310). -/
def execNop (s : State) : Result := finish 4 s

/-- `STOP` (R312). -/
def execStop (_n : Byte) (s : State) : Result := finish 4 s.stop

/-- `HALT` (R311). -/
def execHalt (s : State) : Result := finish 4 s.halt

/-- `DI` (R313). -/
def execDi (s : State) : Result := finish 4 { s with ime := false, eiDelay := 0 }

/-- `EI` (R314). -/
def execEi (s : State) : Result := finish 4 s.enableInterrupts

end Sys2Proof.Machine
end

