-- ==== Sys2Proof/Machine/Cpu.lean ====
section
/-! DEFINITION. The CPU phase of a step (60_exceptions R400): power states, interrupt check, fetch, decode, the
instruction and its end; and the placement of an instruction where the next fetch reads it. -/

namespace Sys2Proof.Machine

/-- The address of the byte after the opcode byte: PC is not advanced by an opcode fetch with HALT_BUG set
(30_encoding R121). -/
def State.operandAddr (s : State) : Word := if s.haltBug then s.regs.pc else s.regs.pc + 1

/-- The opcode byte, `FetchOpcode()` (30_encoding R121). -/
def State.opcodeByte (s : State) : Byte := s.memRead s.regs.pc

/-- The instruction the stream holds at PC, `none` for an illegal opcode (30_encoding R121, R122, R135). Reads
change no state (20_memory R77), so the operand bytes a format does not use may be read too (log 6). -/
def State.fetchInstr (s : State) : Option Instr :=
  decode3 s.opcodeByte (s.memRead s.operandAddr) (s.memRead (s.operandAddr + 1))

/-- The state after the fetch of an instruction of `n` bytes: PC past them, HALT_BUG consumed (30_encoding R121). -/
def State.afterFetch (s : State) (n : Nat) : State :=
  { s with regs := { s.regs with pc := s.operandAddr + BitVec.ofNat 16 (n - 1) }, haltBug := false }

/-- Fetch, decode and run one instruction, then the end of the instruction (60 R400, R403). An illegal opcode
locks the CPU (45_system R316), with PC where the fetch leaves it (log 16). -/
def State.runInstr (s : State) : Result :=
  match s.fetchInstr with
  | some i => mapNext State.endOfInstruction (exec i (s.afterFetch (opForm s.opcodeByte).length))
  | none => .next (s.afterFetch 1).lockCpu.endOfInstruction

/-- A running step: dispatch if IME is set and a source is pending, else one instruction (60 R400). -/
def State.runStep (s : State) : Result :=
  match s.ime, s.pending with
  | true, some k => .next (s.dispatch k)
  | true, none => s.runInstr
  | false, _ => s.runInstr

/-- An idle step of a power state (60 R402). -/
def State.idle (s : State) : Result := .next (s.report idleCycles)

/-- Leave a power state (60 R347, R348). -/
def State.wake (s : State) : State := { s with run := .running }

/-- The CPU phase of a step, by run state (60 R347 to R349, R400). -/
def State.cpuPhase (s : State) : Result :=
  match s.run with
  | .locked => s.idle
  | .stopped => if s.joypad.low = 0xF then s.idle else s.wake.runStep
  | .halted => if s.pendingMask = 0 then s.idle else s.wake.runStep
  | .running => s.runStep

/-- Whether a byte can be placed at an address by changing memory contents alone: ROM outside the boot
overlay, VRAM, WRAM and its echo, OAM, HRAM. -/
def State.placeable (s : State) (addr : Word) : Bool :=
  match regionOf addr with
  | .rom => !(s.bootByte addr).isSome
  | .vram _ => true
  | .wram _ => true
  | .oam _ => true
  | .hram _ => true
  | .xram => false
  | .unusable => false
  | .io _ => false
  | .ie => false

/-- The cartridge a byte of the ROM range is placed in: the loaded one, or a 32 KiB one without controller. -/
def State.someCart (s : State) : Cart :=
  s.mem.cart.getD { mbc := .noController, nrom := 2, ramSize := 0, rom := [], xram := [] }

/-- Place a byte at an address: in the image at the bank mapped there for ROM, else in the array. -/
def State.place (s : State) (addr : Word) (v : Byte) : State :=
  match regionOf addr with
  | .rom =>
    let k := s.someCart
    { s with mem := { s.mem with cart := some { k with rom := k.rom.write (k.romIndex addr) v } } }
  | .vram off => { s with mem := { s.mem with vram := s.mem.vram.write off v } }
  | .wram off => { s with mem := { s.mem with wram := s.mem.wram.write off v } }
  | .oam off => { s with mem := { s.mem with oam := s.mem.oam.write off v } }
  | .hram off => { s with mem := { s.mem with hram := s.mem.hram.write off v } }
  | .xram => s
  | .unusable => s
  | .io _ => s
  | .ie => s

/-- Place bytes at rising addresses. -/
def State.placeBytes (s : State) (addr : Word) : List Byte → State
  | [] => s
  | v :: vs => State.placeBytes (s.place addr v) (addr + 1) vs

/-- The longest instruction's bytes from PC on can all be placed. -/
def State.pcPlaceable (s : State) : Bool :=
  s.placeable s.regs.pc && s.placeable (s.regs.pc + 1) && s.placeable (s.regs.pc + 2)

/-- A state whose next step fetches at PC: running, no HALT_BUG, no dispatch due; and PC where bytes can be
placed, 0xC000 where they cannot be (log 4). -/
def State.readyToFetch (s : State) : State :=
  let s1 := { s with run := .running, haltBug := false, ime := if s.pendingMask = 0 then s.ime else false }
  if s1.pcPlaceable then s1 else s1.setPc 0xC000

end Sys2Proof.Machine
end

