-- ==== Sys2Proof/Machine/Step.lean ====
section
/-! DEFINITION. One step of the machine (60_exceptions R400), and the state whose next step runs a given table word. -/

namespace Sys2Proof.Machine

/-- `Step()`: the CPU phase, then the timer and the PPU over the cycles it reports (60 R400, R401). -/
def step (s : State) : Host.Outcome State Fault Refusal := mapNext State.advance s.cpuPhase

/-- `s` with the instruction of a table word placed where the next step fetches it; it stands for loading a
program image (log 4, log 5). -/
def State.withFetchWord (s : State) (nbits w : Nat) : State :=
  let s1 := s.readyToFetch
  s1.placeBytes s1.regs.pc (tableBytes nbits w)

end Sys2Proof.Machine
end

