-- ==== Sys2Proof/WellFormed.lean ====
section
/-! DEFINITION. Well-formedness. Every operand field of an instruction has exactly the width the encoding
gives it (30_encoding R120, R124), so each term of `Instr` is well formed; what can be ill formed is the
Config a host supplies (70_reset_and_hazards R444) and the parameters of a machine (00_scope R7). -/

namespace Sys2Proof

/-- Every term of `Instr` has an encoding (30_encoding R120): its operands are bytes and words by type.
The reserved values of other encodings do not exist here (R136). -/
def Instr.wellFormed (_ : Instr) : Bool := true

/-- D4: only DMG and MGB. -/
def Revision.supported : Revision → Bool
  | .dmg => true
  | .mgb => true
  | .other _ => false

/-- D5: only instruction lockstep. -/
def TimingMode.supported : TimingMode → Bool
  | .instructionLockstep => true
  | .other _ => false

/-- D6: a boot ROM, if given, has exactly 256 bytes. -/
def bootRomOk : Option (List Byte) → Bool
  | none => true
  | some bs => bs.length == 256

/-- The Config is one that construction accepts (70_reset_and_hazards R444). -/
def Config.wellFormed (c : Config) : Bool :=
  c.revision.supported && c.timing.supported && bootRomOk c.bootRom

/-- The parameters make sense: a period and a delay of at least one cycle, and mode 3 within the line
(00_scope R7, 93_implementation_defined). -/
def Params.wellFormed (p : Params) : Bool :=
  decide (1 ≤ p.divPeriod) && decide (1 ≤ p.timaReloadDelay) && decide (1 ≤ p.xferCycles)
    && decide (oamCycles + p.xferCycles < lineCycles)

end Sys2Proof
end

