-- ==== Sys2Proof/Machine/HostCalls.lean ====
section
/-! DEFINITION. The host's calls (70_reset_and_hazards R430 to R457, 60_exceptions R405), the only ways anything outside
the core acts on it (R450), made between steps (R455). step calls none of them. -/

namespace Sys2Proof.Machine

/-- The errors of host calls (00_scope R19); the values carry no further information (R443, R444). -/
inductive HostError where
  /-- `ImageFormatError`: raised by `loadImage` (R440) and `importExternalRam` (R452), nothing changes. Safe. -/
  | imageFormat
  /-- `InvalidConfig`: raised by construction alone (R444), no core exists then. Safe. -/
  | invalidConfig
  deriving DecidableEq, Repr

/-- The state a call leaves and what it answers. -/
structure Reply where
  state : State
  result : Except HostError Unit

/-- `new(config)` (R431, R444). -/
def construct (c : Config) : Except HostError State :=
  if c.wellFormed then .ok (State.powerOn c none) else .error .invalidConfig

/-- `reset()` (R430): the reset values; the image, the controller, the sizes, external RAM and the Config stay. -/
def State.resetCall (s : State) : State := State.powerOn s.cfg s.mem.cart

/-- The controller a cartridge type byte selects, in its power-on state (20_memory R93). -/
def mbcOfType (v : Byte) : Option Mbc :=
  if v = 0x00 then some .noController
  else if v = 0x01 ∨ v = 0x02 ∨ v = 0x03 then some (.mbc1 false 1 0 false)
  else if v = 0x05 ∨ v = 0x06 then some (.mbc2 false 1)
  else if v = 0x11 ∨ v = 0x12 ∨ v = 0x13 then some (.mbc3 false 1 0)
  else if v = 0x19 ∨ v = 0x1A ∨ v = 0x1B then some (.mbc5 false 1 0)
  else none

/-- The largest ROM size code a controller accepts (20_memory R93). -/
def Mbc.maxRomCode : Mbc → Nat
  | .noController => 0
  | .mbc1 _ _ _ _ => 6
  | .mbc2 _ _ => 3
  | .mbc3 _ _ _ => 6
  | .mbc5 _ _ _ => 8

/-- The size a RAM size code declares (20_memory R92). -/
def ramSizeOfCode (v : Byte) : Option Nat :=
  match v.toNat with
  | 0 => some 0
  | 1 => some 2048
  | 2 => some 8192
  | 3 => some 32768
  | 4 => some 131072
  | 5 => some 65536
  | _ => none

/-- RAM_SIZE: for MBC2 its built-in 512 cells whatever the code (20_memory R92). -/
def Mbc.ramSize (m : Mbc) (declared : Nat) : Nat :=
  match m with
  | .mbc2 _ _ => 512
  | _ => declared

/-- The cartridge an image makes, if it passes the five checks of R440, in their order. -/
def cartOfImage (bytes : List Byte) : Option Cart :=
  if bytes.length < 0x0150 then none
  else
    match mbcOfType (bytes.getD 0x0147 0) with
    | none => none
    | some m =>
      let r := (bytes.getD 0x0148 0).toNat
      if 8 < r ∨ m.maxRomCode < r then none
      else if bytes.length ≠ 0x8000 * 2 ^ r then none
      else
        match ramSizeOfCode (bytes.getD 0x0149 0) with
        | none => none
        | some n =>
          some { mbc := m, nrom := 2 * 2 ^ r, ramSize := m.ramSize n, rom := Cells.ofList 0 bytes, xram := [] }

/-- `load_image(bytes)`: on success the new cartridge with zeroed external RAM, then reset() (R441); on
failure no change at all (R442). -/
def State.loadImage (s : State) (bytes : List Byte) : Reply :=
  match cartOfImage bytes with
  | none => { state := s, result := .error .imageFormat }
  | some k => { state := State.powerOn s.cfg (some k), result := .ok () }

/-- The buttons of `set_button_state` (R453). -/
inductive Button where
  | right | left | up | down | a | b | select | start
  deriving DecidableEq, Repr

/-- `BUTTONS[button] <- pressed`. -/
def Buttons.set (b : Buttons) (k : Button) (pressed : Bool) : Buttons :=
  match k with
  | .right => { b with right := pressed }
  | .left => { b with left := pressed }
  | .up => { b with up := pressed }
  | .down => { b with down := pressed }
  | .a => { b with a := pressed }
  | .b => { b with b := pressed }
  | .select => { b with select := pressed }
  | .start => { b with start := pressed }

/-- `set_button_state(button, pressed)`, then the joypad check (R453). -/
def State.setButtonState (s : State) (k : Button) (pressed : Bool) : State :=
  State.joypadCheck { s with joypad := { s.joypad with buttons := s.joypad.buttons.set k pressed } }

/-- `export_external_ram()`: RAM_SIZE bytes in address order, for MBC2 each cell with high nibble 0; empty
without RAM (R451). -/
def State.exportExternalRam (s : State) : List Byte :=
  match s.mem.cart with
  | none => []
  | some k => k.xram.toList 0 k.ramSize

/-- `import_external_ram(bytes)`: exactly RAM_SIZE bytes replace the external RAM, for MBC2 each by its low
nibble; any other length is an error and changes nothing (R452). -/
def State.importExternalRam (s : State) (bytes : List Byte) : Reply :=
  match s.mem.cart with
  | none => { state := s, result := if bytes.length = 0 then .ok () else .error .imageFormat }
  | some k =>
    if bytes.length = k.ramSize then
      { state := s.mapCart fun k =>
          { k with xram := Cells.ofList 0 (bytes.map (Cart.ramStoreValue k.mbc)) }
        result := .ok () }
    else { state := s, result := .error .imageFormat }

/-- `current_frame()`: FB_FRAME as 144 rows of 160 shades (R454). -/
def State.currentFrame (s : State) : List (List (BitVec 2)) :=
  (List.range visibleLines).map fun y => s.ppu.fbFrame.toList (y * lineWidth) lineWidth

/-- Clear VBLANK_EVENT (60_exceptions R406). -/
def State.clearVBlankEvent (s : State) : State := { s with ppu := { s.ppu with vblankEvent := false } }

/-- The loop of `run_frame()` (60_exceptions R405), at most `fuel` steps. -/
def runFrameLoop : Nat → Nat → State → Result
  | 0, _, s => .next s
  | fuel + 1, spent, s =>
    match step s with
    | .next t =>
      if t.ppu.vblankEvent then .next t.clearVBlankEvent
      else if frameCycles ≤ spent + t.cycles then .next t
      else runFrameLoop fuel (spent + t.cycles) t
    | .fault r => .fault r
    | .refused r => .refused r

/-- `run_frame()` (60_exceptions R405). Every step reports at least 4 cycles, so FRAME_CYCLES / 4 steps reach
one of its two exits (log 12). -/
def State.runFrame (s : State) : Result := runFrameLoop (frameCycles / 4) 0 s.clearVBlankEvent

end Sys2Proof.Machine
end

