-- ==== Sys2Proof/Safety.lean ====
section
/-! DEFINITION. The terms in which claims are stated: what counts as a completed instruction with nothing
else touched, which bytes a store may change, the rows of each instruction shape, and the invariants of the
machine. Nothing here is part of the machine. -/

namespace Sys2Proof.Machine

/-- F from its four flags, as the sum of their weights (10_state R24). -/
def flagByte (z n h c : Bool) : Byte :=
  BitVec.ofNat 8 (128 * z.toNat + 64 * n.toNat + 32 * h.toNat + 16 * c.toNat)

/-- The value of an 8-bit register in the `r`, `y` and `z` fields (30_encoding R125). -/
def regCode : Reg8 → BitVec 3
  | .b => 0
  | .c => 1
  | .d => 2
  | .e => 3
  | .h => 4
  | .l => 5
  | .a => 7

/-- The ALU operation field (30_encoding R128). -/
def aluCode : AluOp → BitVec 3
  | .add => 0
  | .adc => 1
  | .sub => 2
  | .sbc => 3
  | .and => 4
  | .xor => 5
  | .or => 6
  | .cp => 7

/-- The rotate and shift operation field (30_encoding R129). -/
def shiftCode : ShiftOp → BitVec 3
  | .rlc => 0
  | .rrc => 1
  | .rl => 2
  | .rr => 3
  | .sla => 4
  | .sra => 5
  | .swap => 6
  | .srl => 7

/-- The p field of a 16-bit operand: dd ends with SP, qq with AF (30_encoding R127). -/
def pairCode : Pair → BitVec 2
  | .bc => 0
  | .de => 1
  | .hl => 2
  | .sp => 3
  | .af => 3

/-- The condition field (30_encoding R126). -/
def condCode : Cond → BitVec 2
  | .nz => 0
  | .z => 1
  | .nc => 2
  | .c => 3

/-- An opcode byte from its fields x, y, z (30_encoding R123). -/
def opByte (x : BitVec 2) (y z : BitVec 3) : Byte := x ++ y ++ z

/-- An opcode byte from its fields x, p, q, z (30_encoding R123). -/
def opByteP (x p : BitVec 2) (q : BitVec 1) (z : BitVec 3) : Byte := x ++ p ++ q ++ z

/-- A source operand: a register, a memory operand or an immediate byte (40_load R150). -/
inductive Src where
  | reg (r : Reg8)
  | mem (m : MemOperand)
  | imm (n : Byte)
  deriving DecidableEq, Repr

/-- The byte a source operand gives. -/
def Src.value (s : State) : Src → Byte
  | .reg r => s.regs.get r
  | .mem m => s.memRead (s.ea m)
  | .imm n => n

/-- `i` runs to completion at `s`: the next state differs from `s` in the register file alone, which becomes
`r`, and the step reports `n` cycles; every byte of memory reads as before. The shape of every instruction
that stores nothing and leaves the control state alone. -/
def RegsOnly (i : Instr) (s : State) (n : Nat) (r : Regs) : Prop :=
  ∃ t, exec i s = .next t ∧ t = { s with regs := r, cycles := n } ∧ ∀ a, t.memRead a = s.memRead a

/-- Bytes written over the bus in order. -/
def storeAll (s : State) : List (Word × Byte) → State
  | [] => s
  | (w, v) :: rest => storeAll (s.memWrite w v) rest

/-- The external RAM cell an address of the window reaches, `none` where none is mapped (20_memory R70). -/
def State.ramCell (s : State) (a : Word) : Option Nat := s.mem.cart.bind fun k => k.ramIndex a

/-- Whether the write of a byte to address `w` may change what address `a` reads: the byte itself (in WRAM
also its echo, in external RAM every address of the same cell) and, for a control address, the registers
that 20_memory R78 lists. Only the ROM range, external RAM and the I/O window reach further than the byte. -/
def State.touches (s : State) (w a : Word) : Bool :=
  match regionOf w with
  | .rom => regionOf a == .rom || regionOf a == .xram
  | .vram _ => regionOf a == regionOf w
  | .wram _ => regionOf a == regionOf w
  | .oam _ => regionOf a == regionOf w
  | .hram _ => regionOf a == regionOf w
  | .ie => regionOf a == regionOf w
  | .xram => regionOf a == .xram && (s.ramCell w).isSome && s.ramCell a == s.ramCell w
  | .unusable => false
  | .io off =>
    match ioRegAt off with
    | .p1 => a == 0xFF00 || a == 0xFF0F
    | .lcdc => a == 0xFF40 || a == 0xFF41 || a == 0xFF44 || a == 0xFF0F
    | .stat => a == 0xFF41 || a == 0xFF0F
    | .lyc => a == 0xFF45 || a == 0xFF41 || a == 0xFF0F
    | .dma => a == 0xFF46 || decide (0xFE00 ≤ a.toNat ∧ a.toNat < 0xFEA0)
    | .boot => decide (a.toNat < 0x100)
    | .ly => false
    | .unmapped => false
    | .sb => a == w
    | .sc => a == w
    | .div => a == w
    | .tima => a == w
    | .tma => a == w
    | .tac => a == w
    | .ifr => a == w
    | .apu _ => a == w
    | .scy => a == w
    | .scx => a == w
    | .bgp => a == w
    | .obp0 => a == w
    | .obp1 => a == w
    | .wy => a == w
    | .wx => a == w

/-- No write of the list touches address `a`. -/
def untouched (s : State) : List (Word × Byte) → Word → Bool
  | [], _ => true
  | (w, v) :: rest, a => !s.touches w a && untouched (s.memWrite w v) rest a

/-- The CPU's control state and the Config are the same in both states. -/
def ControlKept (s t : State) : Prop :=
  t.ime = s.ime ∧ t.eiDelay = s.eiDelay ∧ t.run = s.run ∧ t.haltBug = s.haltBug ∧ t.cfg = s.cfg

/-- `i` runs to completion at `s`: the next state is `s` after the bus writes `ws` in order, with register
file `r` and a report of `n` cycles; the control state is kept, and every address that no write touches
reads as before. -/
def Stores (i : Instr) (s : State) (n : Nat) (r : Regs) (ws : List (Word × Byte)) : Prop :=
  ∃ t, exec i s = .next t ∧ t = { storeAll s ws with regs := r, cycles := n } ∧ ControlKept s t
    ∧ ∀ a, untouched s ws a = true → t.memRead a = s.memRead a

/-- The 49 rows of `LD r,r'`, with destination and source (40_load R151). -/
def ldRegRegRows : List (Instr × Reg8 × Reg8) :=
  ([(.ldBB, .b, .b), (.ldBC, .b, .c), (.ldBD, .b, .d), (.ldBE, .b, .e), (.ldBH, .b, .h),
    (.ldBL, .b, .l), (.ldBA, .b, .a)] : List (Instr × Reg8 × Reg8)) ++
  ([(.ldCB, .c, .b), (.ldCC, .c, .c), (.ldCD, .c, .d), (.ldCE, .c, .e), (.ldCH, .c, .h),
    (.ldCL, .c, .l), (.ldCA, .c, .a)] : List (Instr × Reg8 × Reg8)) ++
  ([(.ldDB, .d, .b), (.ldDC, .d, .c), (.ldDD, .d, .d), (.ldDE, .d, .e), (.ldDH, .d, .h),
    (.ldDL, .d, .l), (.ldDA, .d, .a)] : List (Instr × Reg8 × Reg8)) ++
  ([(.ldEB, .e, .b), (.ldEC, .e, .c), (.ldED, .e, .d), (.ldEE, .e, .e), (.ldEH, .e, .h),
    (.ldEL, .e, .l), (.ldEA, .e, .a)] : List (Instr × Reg8 × Reg8)) ++
  ([(.ldHB, .h, .b), (.ldHC, .h, .c), (.ldHD, .h, .d), (.ldHE, .h, .e), (.ldHH, .h, .h),
    (.ldHL, .h, .l), (.ldHA, .h, .a)] : List (Instr × Reg8 × Reg8)) ++
  ([(.ldLB, .l, .b), (.ldLC, .l, .c), (.ldLD, .l, .d), (.ldLE, .l, .e), (.ldLH, .l, .h),
    (.ldLL, .l, .l), (.ldLA, .l, .a)] : List (Instr × Reg8 × Reg8)) ++
  ([(.ldAB, .a, .b), (.ldAC, .a, .c), (.ldAD, .a, .d), (.ldAE, .a, .e), (.ldAH, .a, .h),
    (.ldAL, .a, .l), (.ldAA, .a, .a)] : List (Instr × Reg8 × Reg8))

/-- The 7 rows of `LD r,n` (40_load R152). -/
def ldRegImmRows (n : Byte) : List (Instr × Reg8) :=
  [(.ldBN n, .b), (.ldCN n, .c), (.ldDN n, .d), (.ldEN n, .e), (.ldHN n, .h), (.ldLN n, .l),
    (.ldAN n, .a)]

/-- The 7 rows of `LD r,(HL)` (40_load R153). -/
def ldRegMemRows : List (Instr × Reg8) :=
  [(.ldBMemHL, .b), (.ldCMemHL, .c), (.ldDMemHL, .d), (.ldEMemHL, .e), (.ldHMemHL, .h),
    (.ldLMemHL, .l), (.ldAMemHL, .a)]

/-- The rows that load A from memory, with operand, cost and bytes (40_load R156, R157, R160, R162, R164). -/
def ldAMemRows (n : Byte) (nn : Word) : List (Instr × MemOperand × Nat × List Byte) :=
  ([(.ldAMemBC, .bc, 8, [0x0A]), (.ldAMemDE, .de, 8, [0x1A])] : List (Instr × MemOperand × Nat × List Byte)) ++
  ([(.ldAMemNN nn, .abs nn, 16, [0xFA, loByte nn, hiByte nn])] : List (Instr × MemOperand × Nat × List Byte)) ++
  ([(.ldhAMemC, .highC, 8, [0xF2]), (.ldhAMemN n, .high n, 12, [0xF0, n])] : List (Instr × MemOperand × Nat × List Byte))

/-- The 7 rows of `LD (HL),r` (40_load R154). -/
def ldMemRegRows : List (Instr × Reg8) :=
  [(.ldMemHLB, .b), (.ldMemHLC, .c), (.ldMemHLD, .d), (.ldMemHLE, .e), (.ldMemHLH, .h),
    (.ldMemHLL, .l), (.ldMemHLA, .a)]

/-- The rows that store A, with operand, cost and bytes (40_load R158, R159, R161, R163, R165). -/
def ldMemARows (n : Byte) (nn : Word) : List (Instr × MemOperand × Nat × List Byte) :=
  ([(.ldMemBCA, .bc, 8, [0x02]), (.ldMemDEA, .de, 8, [0x12])] : List (Instr × MemOperand × Nat × List Byte)) ++
  ([(.ldMemNNA nn, .abs nn, 16, [0xEA, loByte nn, hiByte nn])] : List (Instr × MemOperand × Nat × List Byte)) ++
  ([(.ldhMemCA, .highC, 8, [0xE2]), (.ldhMemNA n, .high n, 12, [0xE0, n])] : List (Instr × MemOperand × Nat × List Byte))

/-- The rows of ADD, ADC, with operation, source, cost and bytes (41_alu8 R192 to R197). -/
def addRows (n : Byte) : List (Instr × AluOp × Src × Nat × List Byte) :=
  ([(.addAB, .add, .reg .b, 4, [opByte 2 (aluCode .add) (regCode .b)]),
    (.addAC, .add, .reg .c, 4, [opByte 2 (aluCode .add) (regCode .c)]),
    (.addAD, .add, .reg .d, 4, [opByte 2 (aluCode .add) (regCode .d)]),
    (.addAE, .add, .reg .e, 4, [opByte 2 (aluCode .add) (regCode .e)])] : List (Instr × AluOp × Src × Nat × List Byte)) ++
  ([(.addAH, .add, .reg .h, 4, [opByte 2 (aluCode .add) (regCode .h)]),
    (.addAL, .add, .reg .l, 4, [opByte 2 (aluCode .add) (regCode .l)]),
    (.addAA, .add, .reg .a, 4, [opByte 2 (aluCode .add) (regCode .a)])] : List (Instr × AluOp × Src × Nat × List Byte)) ++
  ([(.addAMemHL, .add, .mem .hl, 8, [opByte 2 (aluCode .add) 6]),
    (.addAN n, .add, .imm n, 8, [opByte 3 (aluCode .add) 6, n])] : List (Instr × AluOp × Src × Nat × List Byte)) ++
  ([(.adcAB, .adc, .reg .b, 4, [opByte 2 (aluCode .adc) (regCode .b)]),
    (.adcAC, .adc, .reg .c, 4, [opByte 2 (aluCode .adc) (regCode .c)]),
    (.adcAD, .adc, .reg .d, 4, [opByte 2 (aluCode .adc) (regCode .d)]),
    (.adcAE, .adc, .reg .e, 4, [opByte 2 (aluCode .adc) (regCode .e)])] : List (Instr × AluOp × Src × Nat × List Byte)) ++
  ([(.adcAH, .adc, .reg .h, 4, [opByte 2 (aluCode .adc) (regCode .h)]),
    (.adcAL, .adc, .reg .l, 4, [opByte 2 (aluCode .adc) (regCode .l)]),
    (.adcAA, .adc, .reg .a, 4, [opByte 2 (aluCode .adc) (regCode .a)])] : List (Instr × AluOp × Src × Nat × List Byte)) ++
  ([(.adcAMemHL, .adc, .mem .hl, 8, [opByte 2 (aluCode .adc) 6]),
    (.adcAN n, .adc, .imm n, 8, [opByte 3 (aluCode .adc) 6, n])] : List (Instr × AluOp × Src × Nat × List Byte))

/-- The rows of SUB, SBC, CP, with operation, source, cost and bytes (41_alu8 R198 to R203, R213 to R215). -/
def subRows (n : Byte) : List (Instr × AluOp × Src × Nat × List Byte) :=
  ([(.subB, .sub, .reg .b, 4, [opByte 2 (aluCode .sub) (regCode .b)]),
    (.subC, .sub, .reg .c, 4, [opByte 2 (aluCode .sub) (regCode .c)]),
    (.subD, .sub, .reg .d, 4, [opByte 2 (aluCode .sub) (regCode .d)]),
    (.subE, .sub, .reg .e, 4, [opByte 2 (aluCode .sub) (regCode .e)])] : List (Instr × AluOp × Src × Nat × List Byte)) ++
  ([(.subH, .sub, .reg .h, 4, [opByte 2 (aluCode .sub) (regCode .h)]),
    (.subL, .sub, .reg .l, 4, [opByte 2 (aluCode .sub) (regCode .l)]),
    (.subA, .sub, .reg .a, 4, [opByte 2 (aluCode .sub) (regCode .a)])] : List (Instr × AluOp × Src × Nat × List Byte)) ++
  ([(.subMemHL, .sub, .mem .hl, 8, [opByte 2 (aluCode .sub) 6]),
    (.subN n, .sub, .imm n, 8, [opByte 3 (aluCode .sub) 6, n])] : List (Instr × AluOp × Src × Nat × List Byte)) ++
  ([(.sbcAB, .sbc, .reg .b, 4, [opByte 2 (aluCode .sbc) (regCode .b)]),
    (.sbcAC, .sbc, .reg .c, 4, [opByte 2 (aluCode .sbc) (regCode .c)]),
    (.sbcAD, .sbc, .reg .d, 4, [opByte 2 (aluCode .sbc) (regCode .d)]),
    (.sbcAE, .sbc, .reg .e, 4, [opByte 2 (aluCode .sbc) (regCode .e)])] : List (Instr × AluOp × Src × Nat × List Byte)) ++
  ([(.sbcAH, .sbc, .reg .h, 4, [opByte 2 (aluCode .sbc) (regCode .h)]),
    (.sbcAL, .sbc, .reg .l, 4, [opByte 2 (aluCode .sbc) (regCode .l)]),
    (.sbcAA, .sbc, .reg .a, 4, [opByte 2 (aluCode .sbc) (regCode .a)])] : List (Instr × AluOp × Src × Nat × List Byte)) ++
  ([(.sbcAMemHL, .sbc, .mem .hl, 8, [opByte 2 (aluCode .sbc) 6]),
    (.sbcAN n, .sbc, .imm n, 8, [opByte 3 (aluCode .sbc) 6, n])] : List (Instr × AluOp × Src × Nat × List Byte)) ++
  ([(.cpB, .cp, .reg .b, 4, [opByte 2 (aluCode .cp) (regCode .b)]),
    (.cpC, .cp, .reg .c, 4, [opByte 2 (aluCode .cp) (regCode .c)]),
    (.cpD, .cp, .reg .d, 4, [opByte 2 (aluCode .cp) (regCode .d)]),
    (.cpE, .cp, .reg .e, 4, [opByte 2 (aluCode .cp) (regCode .e)])] : List (Instr × AluOp × Src × Nat × List Byte)) ++
  ([(.cpH, .cp, .reg .h, 4, [opByte 2 (aluCode .cp) (regCode .h)]),
    (.cpL, .cp, .reg .l, 4, [opByte 2 (aluCode .cp) (regCode .l)]),
    (.cpA, .cp, .reg .a, 4, [opByte 2 (aluCode .cp) (regCode .a)])] : List (Instr × AluOp × Src × Nat × List Byte)) ++
  ([(.cpMemHL, .cp, .mem .hl, 8, [opByte 2 (aluCode .cp) 6]),
    (.cpN n, .cp, .imm n, 8, [opByte 3 (aluCode .cp) 6, n])] : List (Instr × AluOp × Src × Nat × List Byte))

/-- The rows of AND, XOR, OR, with operation, source, cost and bytes (41_alu8 R204 to R212). -/
def logicRows (n : Byte) : List (Instr × AluOp × Src × Nat × List Byte) :=
  ([(.andB, .and, .reg .b, 4, [opByte 2 (aluCode .and) (regCode .b)]),
    (.andC, .and, .reg .c, 4, [opByte 2 (aluCode .and) (regCode .c)]),
    (.andD, .and, .reg .d, 4, [opByte 2 (aluCode .and) (regCode .d)]),
    (.andE, .and, .reg .e, 4, [opByte 2 (aluCode .and) (regCode .e)])] : List (Instr × AluOp × Src × Nat × List Byte)) ++
  ([(.andH, .and, .reg .h, 4, [opByte 2 (aluCode .and) (regCode .h)]),
    (.andL, .and, .reg .l, 4, [opByte 2 (aluCode .and) (regCode .l)]),
    (.andA, .and, .reg .a, 4, [opByte 2 (aluCode .and) (regCode .a)])] : List (Instr × AluOp × Src × Nat × List Byte)) ++
  ([(.andMemHL, .and, .mem .hl, 8, [opByte 2 (aluCode .and) 6]),
    (.andN n, .and, .imm n, 8, [opByte 3 (aluCode .and) 6, n])] : List (Instr × AluOp × Src × Nat × List Byte)) ++
  ([(.xorB, .xor, .reg .b, 4, [opByte 2 (aluCode .xor) (regCode .b)]),
    (.xorC, .xor, .reg .c, 4, [opByte 2 (aluCode .xor) (regCode .c)]),
    (.xorD, .xor, .reg .d, 4, [opByte 2 (aluCode .xor) (regCode .d)]),
    (.xorE, .xor, .reg .e, 4, [opByte 2 (aluCode .xor) (regCode .e)])] : List (Instr × AluOp × Src × Nat × List Byte)) ++
  ([(.xorH, .xor, .reg .h, 4, [opByte 2 (aluCode .xor) (regCode .h)]),
    (.xorL, .xor, .reg .l, 4, [opByte 2 (aluCode .xor) (regCode .l)]),
    (.xorA, .xor, .reg .a, 4, [opByte 2 (aluCode .xor) (regCode .a)])] : List (Instr × AluOp × Src × Nat × List Byte)) ++
  ([(.xorMemHL, .xor, .mem .hl, 8, [opByte 2 (aluCode .xor) 6]),
    (.xorN n, .xor, .imm n, 8, [opByte 3 (aluCode .xor) 6, n])] : List (Instr × AluOp × Src × Nat × List Byte)) ++
  ([(.orB, .or, .reg .b, 4, [opByte 2 (aluCode .or) (regCode .b)]),
    (.orC, .or, .reg .c, 4, [opByte 2 (aluCode .or) (regCode .c)]),
    (.orD, .or, .reg .d, 4, [opByte 2 (aluCode .or) (regCode .d)]),
    (.orE, .or, .reg .e, 4, [opByte 2 (aluCode .or) (regCode .e)])] : List (Instr × AluOp × Src × Nat × List Byte)) ++
  ([(.orH, .or, .reg .h, 4, [opByte 2 (aluCode .or) (regCode .h)]),
    (.orL, .or, .reg .l, 4, [opByte 2 (aluCode .or) (regCode .l)]),
    (.orA, .or, .reg .a, 4, [opByte 2 (aluCode .or) (regCode .a)])] : List (Instr × AluOp × Src × Nat × List Byte)) ++
  ([(.orMemHL, .or, .mem .hl, 8, [opByte 2 (aluCode .or) 6]),
    (.orN n, .or, .imm n, 8, [opByte 3 (aluCode .or) 6, n])] : List (Instr × AluOp × Src × Nat × List Byte))

/-- The 7 rows of INC r (41_alu8 R216). -/
def incRegRows : List (Instr × Reg8) :=
  [(.incB, .b), (.incC, .c), (.incD, .d), (.incE, .e), (.incH, .h), (.incL, .l), (.incA, .a)]

/-- The 7 rows of DEC r (41_alu8 R218). -/
def decRegRows : List (Instr × Reg8) :=
  [(.decB, .b), (.decC, .c), (.decD, .d), (.decE, .e), (.decH, .h), (.decL, .l), (.decA, .a)]

/-- The 4 rows of `ADD HL,rr` (42_alu16 R231). -/
def addHlRows : List (Instr × Pair) :=
  [(.addHLBC, .bc), (.addHLDE, .de), (.addHLHL, .hl), (.addHLSP, .sp)]

/-- The 4 rows of `INC rr` (42_alu16 R232). -/
def incPairRows : List (Instr × Pair) :=
  [(.incBC, .bc), (.incDE, .de), (.incHL, .hl), (.incSP, .sp)]

/-- The 4 rows of `DEC rr` (42_alu16 R233). -/
def decPairRows : List (Instr × Pair) :=
  [(.decBC, .bc), (.decDE, .de), (.decHL, .hl), (.decSP, .sp)]

/-- The 56 register rows of the rotate and shift group (43 R255 to R269). -/
def shiftRegRows : List (Instr × ShiftOp × Reg8) :=
  ([(.rlcB, .rlc, .b), (.rlcC, .rlc, .c), (.rlcD, .rlc, .d), (.rlcE, .rlc, .e), (.rlcH, .rlc, .h),
    (.rlcL, .rlc, .l), (.rlcA, .rlc, .a)] : List (Instr × ShiftOp × Reg8)) ++
  ([(.rrcB, .rrc, .b), (.rrcC, .rrc, .c), (.rrcD, .rrc, .d), (.rrcE, .rrc, .e), (.rrcH, .rrc, .h),
    (.rrcL, .rrc, .l), (.rrcA, .rrc, .a)] : List (Instr × ShiftOp × Reg8)) ++
  ([(.rlB, .rl, .b), (.rlC, .rl, .c), (.rlD, .rl, .d), (.rlE, .rl, .e), (.rlH, .rl, .h),
    (.rlL, .rl, .l), (.rlA, .rl, .a)] : List (Instr × ShiftOp × Reg8)) ++
  ([(.rrB, .rr, .b), (.rrC, .rr, .c), (.rrD, .rr, .d), (.rrE, .rr, .e), (.rrH, .rr, .h),
    (.rrL, .rr, .l), (.rrA, .rr, .a)] : List (Instr × ShiftOp × Reg8)) ++
  ([(.slaB, .sla, .b), (.slaC, .sla, .c), (.slaD, .sla, .d), (.slaE, .sla, .e), (.slaH, .sla, .h),
    (.slaL, .sla, .l), (.slaA, .sla, .a)] : List (Instr × ShiftOp × Reg8)) ++
  ([(.sraB, .sra, .b), (.sraC, .sra, .c), (.sraD, .sra, .d), (.sraE, .sra, .e), (.sraH, .sra, .h),
    (.sraL, .sra, .l), (.sraA, .sra, .a)] : List (Instr × ShiftOp × Reg8)) ++
  ([(.swapB, .swap, .b), (.swapC, .swap, .c), (.swapD, .swap, .d), (.swapE, .swap, .e),
    (.swapH, .swap, .h), (.swapL, .swap, .l), (.swapA, .swap, .a)] : List (Instr × ShiftOp × Reg8)) ++
  ([(.srlB, .srl, .b), (.srlC, .srl, .c), (.srlD, .srl, .d), (.srlE, .srl, .e), (.srlH, .srl, .h),
    (.srlL, .srl, .l), (.srlA, .srl, .a)] : List (Instr × ShiftOp × Reg8))

/-- The 8 rows of the rotate and shift group on (HL) (43 R256 to R270). -/
def shiftMemRows : List (Instr × ShiftOp) :=
  [(.rlcMemHL, .rlc), (.rrcMemHL, .rrc), (.rlMemHL, .rl), (.rrMemHL, .rr), (.slaMemHL, .sla),
    (.sraMemHL, .sra), (.swapMemHL, .swap), (.srlMemHL, .srl)]

/-- The 56 rows of `BIT b,r` (43 R271). -/
def bitRegRows : List (Instr × BitVec 3 × Reg8) :=
  ([(.bit0B, 0, .b), (.bit0C, 0, .c), (.bit0D, 0, .d), (.bit0E, 0, .e), (.bit0H, 0, .h),
    (.bit0L, 0, .l), (.bit0A, 0, .a)] : List (Instr × BitVec 3 × Reg8)) ++
  ([(.bit1B, 1, .b), (.bit1C, 1, .c), (.bit1D, 1, .d), (.bit1E, 1, .e), (.bit1H, 1, .h),
    (.bit1L, 1, .l), (.bit1A, 1, .a)] : List (Instr × BitVec 3 × Reg8)) ++
  ([(.bit2B, 2, .b), (.bit2C, 2, .c), (.bit2D, 2, .d), (.bit2E, 2, .e), (.bit2H, 2, .h),
    (.bit2L, 2, .l), (.bit2A, 2, .a)] : List (Instr × BitVec 3 × Reg8)) ++
  ([(.bit3B, 3, .b), (.bit3C, 3, .c), (.bit3D, 3, .d), (.bit3E, 3, .e), (.bit3H, 3, .h),
    (.bit3L, 3, .l), (.bit3A, 3, .a)] : List (Instr × BitVec 3 × Reg8)) ++
  ([(.bit4B, 4, .b), (.bit4C, 4, .c), (.bit4D, 4, .d), (.bit4E, 4, .e), (.bit4H, 4, .h),
    (.bit4L, 4, .l), (.bit4A, 4, .a)] : List (Instr × BitVec 3 × Reg8)) ++
  ([(.bit5B, 5, .b), (.bit5C, 5, .c), (.bit5D, 5, .d), (.bit5E, 5, .e), (.bit5H, 5, .h),
    (.bit5L, 5, .l), (.bit5A, 5, .a)] : List (Instr × BitVec 3 × Reg8)) ++
  ([(.bit6B, 6, .b), (.bit6C, 6, .c), (.bit6D, 6, .d), (.bit6E, 6, .e), (.bit6H, 6, .h),
    (.bit6L, 6, .l), (.bit6A, 6, .a)] : List (Instr × BitVec 3 × Reg8)) ++
  ([(.bit7B, 7, .b), (.bit7C, 7, .c), (.bit7D, 7, .d), (.bit7E, 7, .e), (.bit7H, 7, .h),
    (.bit7L, 7, .l), (.bit7A, 7, .a)] : List (Instr × BitVec 3 × Reg8))

/-- The 56 rows of `RES b,r` (43 R273). -/
def resRegRows : List (Instr × BitVec 3 × Reg8) :=
  ([(.res0B, 0, .b), (.res0C, 0, .c), (.res0D, 0, .d), (.res0E, 0, .e), (.res0H, 0, .h),
    (.res0L, 0, .l), (.res0A, 0, .a)] : List (Instr × BitVec 3 × Reg8)) ++
  ([(.res1B, 1, .b), (.res1C, 1, .c), (.res1D, 1, .d), (.res1E, 1, .e), (.res1H, 1, .h),
    (.res1L, 1, .l), (.res1A, 1, .a)] : List (Instr × BitVec 3 × Reg8)) ++
  ([(.res2B, 2, .b), (.res2C, 2, .c), (.res2D, 2, .d), (.res2E, 2, .e), (.res2H, 2, .h),
    (.res2L, 2, .l), (.res2A, 2, .a)] : List (Instr × BitVec 3 × Reg8)) ++
  ([(.res3B, 3, .b), (.res3C, 3, .c), (.res3D, 3, .d), (.res3E, 3, .e), (.res3H, 3, .h),
    (.res3L, 3, .l), (.res3A, 3, .a)] : List (Instr × BitVec 3 × Reg8)) ++
  ([(.res4B, 4, .b), (.res4C, 4, .c), (.res4D, 4, .d), (.res4E, 4, .e), (.res4H, 4, .h),
    (.res4L, 4, .l), (.res4A, 4, .a)] : List (Instr × BitVec 3 × Reg8)) ++
  ([(.res5B, 5, .b), (.res5C, 5, .c), (.res5D, 5, .d), (.res5E, 5, .e), (.res5H, 5, .h),
    (.res5L, 5, .l), (.res5A, 5, .a)] : List (Instr × BitVec 3 × Reg8)) ++
  ([(.res6B, 6, .b), (.res6C, 6, .c), (.res6D, 6, .d), (.res6E, 6, .e), (.res6H, 6, .h),
    (.res6L, 6, .l), (.res6A, 6, .a)] : List (Instr × BitVec 3 × Reg8)) ++
  ([(.res7B, 7, .b), (.res7C, 7, .c), (.res7D, 7, .d), (.res7E, 7, .e), (.res7H, 7, .h),
    (.res7L, 7, .l), (.res7A, 7, .a)] : List (Instr × BitVec 3 × Reg8))

/-- The 56 rows of `SET b,r` (43 R275). -/
def setRegRows : List (Instr × BitVec 3 × Reg8) :=
  ([(.set0B, 0, .b), (.set0C, 0, .c), (.set0D, 0, .d), (.set0E, 0, .e), (.set0H, 0, .h),
    (.set0L, 0, .l), (.set0A, 0, .a)] : List (Instr × BitVec 3 × Reg8)) ++
  ([(.set1B, 1, .b), (.set1C, 1, .c), (.set1D, 1, .d), (.set1E, 1, .e), (.set1H, 1, .h),
    (.set1L, 1, .l), (.set1A, 1, .a)] : List (Instr × BitVec 3 × Reg8)) ++
  ([(.set2B, 2, .b), (.set2C, 2, .c), (.set2D, 2, .d), (.set2E, 2, .e), (.set2H, 2, .h),
    (.set2L, 2, .l), (.set2A, 2, .a)] : List (Instr × BitVec 3 × Reg8)) ++
  ([(.set3B, 3, .b), (.set3C, 3, .c), (.set3D, 3, .d), (.set3E, 3, .e), (.set3H, 3, .h),
    (.set3L, 3, .l), (.set3A, 3, .a)] : List (Instr × BitVec 3 × Reg8)) ++
  ([(.set4B, 4, .b), (.set4C, 4, .c), (.set4D, 4, .d), (.set4E, 4, .e), (.set4H, 4, .h),
    (.set4L, 4, .l), (.set4A, 4, .a)] : List (Instr × BitVec 3 × Reg8)) ++
  ([(.set5B, 5, .b), (.set5C, 5, .c), (.set5D, 5, .d), (.set5E, 5, .e), (.set5H, 5, .h),
    (.set5L, 5, .l), (.set5A, 5, .a)] : List (Instr × BitVec 3 × Reg8)) ++
  ([(.set6B, 6, .b), (.set6C, 6, .c), (.set6D, 6, .d), (.set6E, 6, .e), (.set6H, 6, .h),
    (.set6L, 6, .l), (.set6A, 6, .a)] : List (Instr × BitVec 3 × Reg8)) ++
  ([(.set7B, 7, .b), (.set7C, 7, .c), (.set7D, 7, .d), (.set7E, 7, .e), (.set7H, 7, .h),
    (.set7L, 7, .l), (.set7A, 7, .a)] : List (Instr × BitVec 3 × Reg8))

/-- The 8 rows of `BIT b,(HL)` (43 R272). -/
def bitMemRows : List (Instr × BitVec 3) :=
  [(.bit0MemHL, 0), (.bit1MemHL, 1), (.bit2MemHL, 2), (.bit3MemHL, 3), (.bit4MemHL, 4),
    (.bit5MemHL, 5), (.bit6MemHL, 6), (.bit7MemHL, 7)]

/-- The 8 rows of `RES b,(HL)` (43 R274). -/
def resMemRows : List (Instr × BitVec 3) :=
  [(.res0MemHL, 0), (.res1MemHL, 1), (.res2MemHL, 2), (.res3MemHL, 3), (.res4MemHL, 4),
    (.res5MemHL, 5), (.res6MemHL, 6), (.res7MemHL, 7)]

/-- The 8 rows of `SET b,(HL)` (43 R276). -/
def setMemRows : List (Instr × BitVec 3) :=
  [(.set0MemHL, 0), (.set1MemHL, 1), (.set2MemHL, 2), (.set3MemHL, 3), (.set4MemHL, 4),
    (.set5MemHL, 5), (.set6MemHL, 6), (.set7MemHL, 7)]

/-- The 4 rows of `JP cc,nn` (44_control R282). -/
def jpCondRows (nn : Word) : List (Instr × Cond) :=
  [(.jpNZNN nn, .nz), (.jpZNN nn, .z), (.jpNCNN nn, .nc), (.jpCNN nn, .c)]

/-- The 4 rows of `JR cc,e` (44_control R285). -/
def jrCondRows (e : Byte) : List (Instr × Cond) :=
  [(.jrNZE8 e, .nz), (.jrZE8 e, .z), (.jrNCE8 e, .nc), (.jrCE8 e, .c)]

/-- The 4 rows of `CALL cc,nn` (44_control R287). -/
def callCondRows (nn : Word) : List (Instr × Cond) :=
  [(.callNZNN nn, .nz), (.callZNN nn, .z), (.callNCNN nn, .nc), (.callCNN nn, .c)]

/-- The 4 rows of `RET cc` (44_control R290). -/
def retCondRows : List (Instr × Cond) :=
  [(.retNZ, .nz), (.retZ, .z), (.retNC, .nc), (.retC, .c)]

/-- The 8 rows of RST, with the y field; the target is 8 y (44_control R291). -/
def rstRows : List (Instr × BitVec 3) :=
  [(.rst00, 0), (.rst08, 1), (.rst10, 2), (.rst18, 3), (.rst20, 4), (.rst28, 5), (.rst30, 6),
    (.rst38, 7)]

/-! The composition of a line, told pixel by pixel and object by object from 60_exceptions R388 to R391, without
the functions of Machine/Render.lean. Rows, columns and colour indices are counts. -/

/-- The colour index at bit `b` of the two plane bytes at VRAM offset `addr` (R388, R391). -/
def planeColour (vram : Cells 8) (addr b : Nat) : Nat :=
  2 * ((vram.read (addr + 1)).getLsbD b).toNat + ((vram.read addr).getLsbD b).toNat

/-- The shade `(pal >> (2 * c)) & 3` (R388). -/
def shadeOf (pal : Byte) (c : Nat) : BitVec 2 := BitVec.ofNat 2 (pal.toNat / 4 ^ c)

/-- The colour index at column `x`, row `y` of the tile map at VRAM offset `map` (R388, `TilePixel`). -/
def State.mapColour (s : State) (map x y : Nat) : Nat :=
  let idx := (s.mem.vram.read (map + y / 8 * 32 + x / 8)).toNat
  let base := if s.ppu.lcdc.getLsbD 4 then idx * 16 else if idx < 128 then 0x1000 + idx * 16 else idx * 16
  planeColour s.mem.vram (base + 2 * (y % 8)) (7 - x % 8)

/-- The window lies over column `x` of line `ly` (R388, R389). -/
def State.windowOver (s : State) (ly x : Nat) : Bool :=
  s.ppu.lcdc.getLsbD 5 && decide (s.ppu.wy.toNat ≤ ly ∧ s.ppu.wx.toNat ≤ 166 ∧ s.ppu.wx.toNat ≤ x + 7)

/-- The colour index behind the objects: the window's, the background's, or 0 with LCDC bit 0 off (R388). -/
def State.backColour (s : State) (ly x : Nat) : Nat :=
  if s.ppu.lcdc.getLsbD 0 = false then 0
  else if s.windowOver ly x then
    s.mapColour (if s.ppu.lcdc.getLsbD 6 then 0x1C00 else 0x1800) (x + 7 - s.ppu.wx.toNat) s.ppu.winLine
  else
    s.mapColour (if s.ppu.lcdc.getLsbD 3 then 0x1C00 else 0x1800) ((s.ppu.scx.toNat + x) % 256)
      ((s.ppu.scy.toNat + ly) % 256)

/-- Byte `n` of OAM entry `i`: Y, X, tile, attributes (R390). -/
def State.objByte (s : State) (i n : Nat) : Byte := s.mem.oam.read (4 * i + n)

/-- The height of objects (R390). -/
def State.objTall (s : State) : Nat := if s.ppu.lcdc.getLsbD 2 then 16 else 8

/-- The rows of object `i` cover line `ly` (R390). -/
def State.objOnLine (s : State) (ly i : Nat) : Bool :=
  decide ((s.objByte i 0).toNat ≤ ly + 16 ∧ ly + 16 < (s.objByte i 0).toNat + s.objTall)

/-- Object `i` is one of the first ten of the 40, in OAM order, that cover line `ly` (R390). -/
def State.objSelected (s : State) (ly i : Nat) : Bool :=
  decide (i < 40) && s.objOnLine ly i && decide (((List.range i).filter (s.objOnLine ly)).length < 10)

/-- The colour index of object `i` at column `x` of line `ly`: attribute bit 6 flips it vertically, bit 5
horizontally; a tall object's tile number is even (R391). -/
def State.objColour (s : State) (ly x i : Nat) : Nat :=
  let down := ly + 16 - (s.objByte i 0).toNat
  let row := if (s.objByte i 3).getLsbD 6 then s.objTall - 1 - down else down
  let right := x + 8 - (s.objByte i 1).toNat
  let col := if (s.objByte i 3).getLsbD 5 then 7 - right else right
  let tile := (s.objByte i 2).toNat
  let tile := if s.objTall = 16 then tile / 2 * 2 else tile
  planeColour s.mem.vram (tile * 16 + 2 * row) (7 - col)

/-- Object `i` is selected, covers column `x` and is not transparent there (R391). -/
def State.objShows (s : State) (ly x i : Nat) : Bool :=
  s.objSelected ly i && decide ((s.objByte i 1).toNat ≤ x + 8 ∧ x < (s.objByte i 1).toNat)
    && s.objColour ly x i != 0

/-- Object `i` shows at the pixel, and every other that does has a greater X, or the same X and a greater
OAM index (R391). -/
def State.objWins (s : State) (ly x i : Nat) : Prop :=
  s.objShows ly x i = true ∧ ∀ j, s.objShows ly x j = true → j ≠ i →
    (s.objByte i 1).toNat < (s.objByte j 1).toNat ∨ (s.objByte i 1 = s.objByte j 1 ∧ i < j)

/-- F's unused bits are zero (10_state R25). -/
def FlagsClean (s : State) : Prop := s.regs.f &&& 0x0F = 0

/-- Between steps an enable in flight has one instruction left and IME is still 0 (10_state R28), and
HALT_BUG is set in the running state alone (R30). -/
structure ControlLegal (s : State) : Prop where
  delay : s.eiDelay ≤ 1
  delayMasked : s.eiDelay = 1 → s.ime = false
  haltPending : s.haltBug = true → s.run = .running

/-- The timer's hidden counters are in their ranges (10_state R36). -/
structure TimerLegal (s : State) : Prop where
  divSub : s.timer.divSub < s.cfg.params.divPeriod
  timaSub : s.timer.timaSub < 1024
  reload : s.timer.reloadPending ≤ s.cfg.params.timaReloadDelay

/-- The PPU's position, mode and STAT line while the LCD is on (60_exceptions R380, R386). -/
structure PpuOn (s : State) : Prop where
  ly : s.ppu.ly.toNat < frameLines
  dot : s.ppu.dot < lineCycles
  mode : s.ppu.mode = modeAt s.cfg.params s.ppu.ly s.ppu.dot
  statLine : s.ppu.statLine = s.ppu.statLevel
  winLine : s.ppu.ly.toNat < visibleLines →
    s.ppu.winLine ≤ s.ppu.ly.toNat + if oamCycles ≤ s.ppu.dot then 1 else 0

/-- The PPU while the LCD is off (60_exceptions R381). -/
structure PpuOff (s : State) : Prop where
  ly : s.ppu.ly = 0
  dot : s.ppu.dot = 0
  mode : s.ppu.mode = .hblank
  statLine : s.ppu.statLine = false

/-- The PPU is where R380 to R382 put it; the window's line counter and the frame buffers are within their
sizes (10_state R37, log 9). -/
structure PpuLegal (s : State) : Prop where
  on : s.ppu.lcdOn = true → PpuOn s
  off : s.ppu.lcdOn = false → PpuOff s
  winLine : s.ppu.winLine ≤ visibleLines
  fbLive : s.ppu.fbLive.wfIn 0 (visibleLines * lineWidth) = true
  fbFrame : s.ppu.fbFrame.wfIn 0 (visibleLines * lineWidth) = true

/-- A bank register that never holds 0 does not (20_memory R95, R96, R97). -/
def Mbc.nonzero : Mbc → Prop
  | .noController => True
  | .mbc1 _ b1 _ _ => b1 ≠ 0
  | .mbc2 _ rb => rb ≠ 0
  | .mbc3 _ rb _ => rb ≠ 0
  | .mbc5 _ _ _ => True

/-- The loaded controller's bank registers are legal and the image has banks (20_memory R91 to R97). -/
def BankLegal (s : State) : Prop :=
  ∀ k, s.mem.cart = some k → k.mbc.nonzero ∧ 0 < k.nrom

/-- What holds of the machine between any two steps. -/
structure State.Inv (s : State) : Prop where
  /-- The Config is one that construction accepts, and its parameters make sense. -/
  config : s.cfg.wellFormed = true ∧ s.cfg.params.wellFormed = true
  flags : FlagsClean s
  control : ControlLegal s
  timer : TimerLegal s
  ppu : PpuLegal s
  /-- The edge detector holds the lines as they are (60_exceptions R394). -/
  joypad : s.joypad.p1LowPrev = s.joypad.low
  /-- Only bits 7 and 0 of SC are stored (10_state R42). -/
  serial : s.sc &&& 0x7E = 0
  /-- The overlay is mapped only where a boot ROM is configured (10_state R43). -/
  boot : s.bootMapped = true → s.cfg.hasBoot = true
  /-- Every array is canonical and within its size (10_state R44). -/
  memory : s.mem.wf = true
  banks : BankLegal s

/-- Steps in a row: `steps n s = some t` if n steps from s all answer next states and end in t. -/
def steps : Nat → State → Option State
  | 0, s => some s
  | n + 1, s =>
    match step s with
    | .next t => steps n t
    | .fault _ => none
    | .refused _ => none

/-- The cycles that the first `n` steps from `s` report, added up (70_reset_and_hazards R468). -/
def spent : Nat → State → Nat
  | 0, _ => 0
  | n + 1, s =>
    match step s with
    | .next t => t.cycles + spent n t
    | .fault _ => 0
    | .refused _ => 0

end Sys2Proof.Machine
end

