-- ==== Sys2Proof/Certificates/Slice0/Obligations.lean ====
section
/-! DEFINITION. The statements for the provers, in the terms of Sys2Proof/Safety.lean. Each docstring names
the rules of spec/ it formalises. -/

open Sys2Proof Sys2Proof.Machine

/-! Reset, construction, loading -/

/-- R49: the CPU's reset values, with and without a boot ROM, for every cartridge. -/
def Obligations.ResetCpuValues : Prop :=
  ∀ (c : Config) (k : Option Cart),
    let s := State.powerOn c k
    s.ime = false ∧ s.eiDelay = 0 ∧ s.run = .running ∧ s.haltBug = false ∧
    (c.hasBoot = false →
      s.regs.f = 0xB0 ∧ s.regs.b = 0x00 ∧ s.regs.c = 0x13 ∧ s.regs.d = 0x00 ∧ s.regs.e = 0xD8 ∧
      s.regs.h = 0x01 ∧ s.regs.l = 0x4D ∧ s.regs.sp = 0xFFFE ∧ s.regs.pc = 0x0100 ∧
      (c.revision = .dmg → s.regs.a = 0x01) ∧ (c.revision = .mgb → s.regs.a = 0xFF)) ∧
    (c.hasBoot = true →
      s.regs.a = 0 ∧ s.regs.f = 0 ∧ s.regs.b = 0 ∧ s.regs.c = 0 ∧ s.regs.d = 0 ∧ s.regs.e = 0 ∧
      s.regs.h = 0 ∧ s.regs.l = 0 ∧ s.regs.sp = 0 ∧ s.regs.pc = 0)

/-- R50: the reset values of the interrupt, timer, PPU, joypad, serial and boot registers, in both columns. -/
def Obligations.ResetPeripheralValues : Prop :=
  ∀ (c : Config) (k : Option Cart),
    let s := State.powerOn c k
    let boot := c.hasBoot
    s.joypad = { buttons := {}, p1Sel := 0, p1LowPrev := 0xF } ∧ s.sb = 0 ∧ s.sc = 0 ∧
    s.timer.div = (if boot then 0x00 else 0xAB) ∧ s.timer.divSub = 0 ∧ s.timer.tima = 0 ∧
    s.timer.tma = 0 ∧ s.timer.tac = 0 ∧ s.timer.timaSub = 0 ∧ s.timer.reloadPending = 0 ∧
    s.ifReg = (if boot then 0 else 1) ∧ s.ie = 0 ∧
    s.ppu.lcdc = (if boot then 0x00 else 0x91) ∧ s.ppu.statSel = 0 ∧ s.ppu.scy = 0 ∧ s.ppu.scx = 0 ∧
    s.ppu.lyc = 0 ∧ s.ppu.wy = 0 ∧ s.ppu.wx = 0 ∧ s.ppu.ly = 0 ∧ s.ppu.dot = 0 ∧
    s.ppu.mode = (if boot then .hblank else .oamScan) ∧ s.ppu.winLine = 0 ∧ s.ppu.statLine = false ∧
    s.ppu.vblankEvent = false ∧ s.ppu.dma = 0xFF ∧ s.ppu.bgp = (if boot then 0x00 else 0xFC) ∧
    s.ppu.obp0 = 0xFF ∧ s.ppu.obp1 = 0xFF ∧ s.bootMapped = boot ∧
    s.memRead 0xFF02 = 0x7E ∧ s.memRead 0xFF07 = 0xF8 ∧ s.memRead 0xFF00 = 0xCF ∧
    s.memRead 0xFF0F = (if boot then 0xE0 else 0xE1)

/-- R430, R51, R52: `reset()` puts every array to 0 and every controller register to its power-on value, keeps
the image, the kind of controller, the sizes, external RAM and the Config, and twice is as once. Construction
leaves the reset state without an image (R431); that State.reset is the one of the default Config is the
model's choice (log 3). -/
def Obligations.ResetKeepsCartridge : Prop :=
  construct Config.default = .ok State.reset ∧
  (∀ c s, construct c = .ok s → s = State.powerOn c none) ∧
  ∀ s : State,
    let t := s.resetCall
    t = State.powerOn s.cfg s.mem.cart ∧ t.resetCall = t ∧ t.cfg = s.cfg ∧ t.run = .running ∧
    (∀ i, t.mem.vram.read i = 0 ∧ t.mem.wram.read i = 0 ∧ t.mem.oam.read i = 0 ∧
      t.mem.hram.read i = 0 ∧ t.mem.apu.read i = 0 ∧ t.ppu.fbLive.read i = 0 ∧
      t.ppu.fbFrame.read i = 0) ∧
    (s.mem.cart = none → t.mem.cart = none) ∧
    (∀ k, s.mem.cart = some k → ∃ k', t.mem.cart = some k' ∧ k'.rom = k.rom ∧ k'.nrom = k.nrom ∧
      k'.ramSize = k.ramSize ∧ k'.xram = k.xram ∧
      (k.mbc = .noController → k'.mbc = .noController) ∧
      (∀ en b1 b2 md, k.mbc = .mbc1 en b1 b2 md → k'.mbc = .mbc1 false 1 0 false) ∧
      (∀ en rb, k.mbc = .mbc2 en rb → k'.mbc = .mbc2 false 1) ∧
      (∀ en rb ra, k.mbc = .mbc3 en rb ra → k'.mbc = .mbc3 false 1 0) ∧
      (∀ en rb ra, k.mbc = .mbc5 en rb ra → k'.mbc = .mbc5 false 1 0))

/-- R442, R443, R440: `load_image` succeeds exactly on the images that pass the five checks of R440, and on
failure it answers ImageFormatError and changes no state. -/
def Obligations.LoadFailureChangesNothing : Prop :=
  ∀ (s : State) (bytes : List Byte),
    let ty := bytes.getD 0x0147 0
    let r := (bytes.getD 0x0148 0).toNat
    let ok := 0x0150 ≤ bytes.length ∧
      ((ty = 0x00 ∧ r ≤ 0) ∨ (ty ∈ ([0x01, 0x02, 0x03] : List Byte) ∧ r ≤ 6) ∨
        (ty ∈ ([0x05, 0x06] : List Byte) ∧ r ≤ 3) ∨ (ty ∈ ([0x11, 0x12, 0x13] : List Byte) ∧ r ≤ 6) ∨
        (ty ∈ ([0x19, 0x1A, 0x1B] : List Byte) ∧ r ≤ 8)) ∧
      bytes.length = 0x8000 * 2 ^ r ∧ (bytes.getD 0x0149 0).toNat ≤ 5
    (ok → (s.loadImage bytes).result = .ok ()) ∧
    (¬ ok → (s.loadImage bytes).result = .error .imageFormat ∧ (s.loadImage bytes).state = s)

/-- R441, R92, R93: a successful `load_image` leaves the reset state with exactly the image's bytes as ROM, the
controller its type byte names, the declared sizes and external RAM of zeros. -/
def Obligations.LoadSuccessInstallsImage : Prop :=
  ∀ (s : State) (bytes : List Byte), (s.loadImage bytes).result = .ok () →
    ∃ k, (s.loadImage bytes).state = State.powerOn s.cfg (some k) ∧
      (∀ i, k.rom.read i = bytes.getD i 0) ∧ k.nrom = 2 * 2 ^ (bytes.getD 0x0148 0).toNat ∧
      (∀ i, k.xram.read i = 0) ∧
      (let ty := bytes.getD 0x0147 0
       let sizes := ([0, 2048, 8192, 32768, 131072, 65536] : List Nat)
       let declared := sizes.getD (bytes.getD 0x0149 0).toNat 0
       (ty = 0x00 → k.mbc = .noController ∧ k.ramSize = declared) ∧
       (ty ∈ ([0x01, 0x02, 0x03] : List Byte) → k.mbc = .mbc1 false 1 0 false ∧ k.ramSize = declared) ∧
       (ty ∈ ([0x05, 0x06] : List Byte) → k.mbc = .mbc2 false 1 ∧ k.ramSize = 512) ∧
       (ty ∈ ([0x11, 0x12, 0x13] : List Byte) → k.mbc = .mbc3 false 1 0 ∧ k.ramSize = declared) ∧
       (ty ∈ ([0x19, 0x1A, 0x1B] : List Byte) → k.mbc = .mbc5 false 1 0 ∧ k.ramSize = declared))

/-! Decode -/

/-- Words of each family, written out from their encodings, decode to their instructions (R120, R124, R137). -/
def Obligations.KnownWordsDecode : Prop :=
  decode [0x41] = .ok (.ldBC, []) ∧ decode [0x3E, 0x5A] = .ok (.ldAN 0x5A, []) ∧
  decode [0xFA, 0x23, 0xC1] = .ok (.ldAMemNN 0xC123, []) ∧ decode [0x8B] = .ok (.adcAE, []) ∧
  decode [0x39] = .ok (.addHLSP, []) ∧ decode [0xF8, 0x02] = .ok (.ldHLSPE 0x02, []) ∧
  decode [0xCB, 0x65] = .ok (.bit4L, []) ∧ decode [0xCB, 0xCB] = .ok (.set1E, []) ∧
  decode [0xDC, 0x00, 0x40] = .ok (.callCNN 0x4000, []) ∧ decode [0x10, 0x00] = .ok (.stop 0x00, []) ∧
  decode [0x76] = .ok (.halt, []) ∧ decode [0xD3] = .error (.illegalOpcode 0xD3) ∧
  decode [0xCB] = .error .truncated

/-- R122: decoding the bytes of any instruction, with any operand and whatever follows, gives that instruction
and what follows. -/
def Obligations.EncodeDecodeRoundTrip : Prop :=
  ∀ (i : Instr) (rest : List Byte), i.wellFormed = true → decode (encode i ++ rest) = .ok (i, rest)

/-- R120, R132, R133: what a byte string decodes to is encoded by exactly the bytes that the decoder took, 1, 2
or 3 of them. -/
def Obligations.DecodedBytesAreTheEncoding : Prop :=
  ∀ (bytes rest : List Byte) (i : Instr), decode bytes = .ok (i, rest) →
    bytes = encode i ++ rest ∧ 1 ≤ (encode i).length ∧ (encode i).length ≤ 3

/-- R135, R136: exactly eleven first bytes decode to no instruction; the second byte after 0xCB never does so. -/
def Obligations.IllegalBytesExactly : Prop :=
  ∀ b0 b1 b2 : Byte, decode3 b0 b1 b2 = none ↔
    b0 ∈ ([0xD3, 0xDB, 0xDD, 0xE3, 0xE4, 0xEB, 0xEC, 0xED, 0xF4, 0xFC, 0xFD] : List Byte)

/-! The step -/

/-- R400, R121: a running step with no dispatch due runs the instruction its bytes at PC decode to, from the
state with PC past them, and then ends the instruction (R403) and advances the peripherals (R401). -/
def Obligations.StepRunsDecodedInstruction : Prop :=
  ∀ (s : State) (i : Instr), s.run = .running → s.haltBug = false →
    (s.ime = false ∨ s.pendingMask = 0) → i.wellFormed = true →
    decode3 (s.memRead s.regs.pc) (s.memRead (s.regs.pc + 1)) (s.memRead (s.regs.pc + 2)) = some i →
    step s = mapNext (fun t => t.endOfInstruction.advance)
      (exec i { s with regs := { s.regs with pc := s.regs.pc + BitVec.ofNat 16 (encode i).length } })

/-- R121: with HALT_BUG set the opcode fetch does not advance PC, so the byte at PC is opcode and first operand
byte; the step clears HALT_BUG. -/
def Obligations.HaltBugFetchesTwice : Prop :=
  ∀ (s : State) (i : Instr), s.run = .running → s.haltBug = true →
    (s.ime = false ∨ s.pendingMask = 0) →
    decode3 (s.memRead s.regs.pc) (s.memRead s.regs.pc) (s.memRead (s.regs.pc + 1)) = some i →
    step s = mapNext (fun t => t.endOfInstruction.advance)
      (exec i { s with
        regs := { s.regs with pc := s.regs.pc + BitVec.ofNat 16 ((encode i).length - 1) }, haltBug := false })

/-- R316, R349, R135, R121: a running step on an illegal opcode locks the CPU and reports 4 cycles, with PC past
the byte, or left at it where HALT_BUG was set (log 16), which the fetch clears; and no number of further steps
leaves the state Locked or changes a CPU register or memory array. -/
def Obligations.IllegalOpcodeLocks : Prop :=
  (∀ s : State, s.run = .running → (s.ime = false ∨ s.pendingMask = 0) →
    s.memRead s.regs.pc ∈ ([0xD3, 0xDB, 0xDD, 0xE3, 0xE4, 0xEB, 0xEC, 0xED, 0xF4, 0xFC, 0xFD] : List Byte) →
    step s = .next (State.endOfInstruction { s with
      regs := { s.regs with pc := if s.haltBug then s.regs.pc else s.regs.pc + 1 }
      haltBug := false, run := .locked, cycles := 4 }).advance) ∧
  (∀ (n : Nat) (s : State), s.run = .locked → ∃ t, steps n s = some t ∧ t.run = .locked ∧
    t.regs = s.regs ∧ t.mem = s.mem ∧ t.ie = s.ie ∧ t.ime = s.ime ∧ (0 < n → t.cycles = 4))

/-- R347, R348, R402: an idle step of a power state changes nothing in the CPU and reports 4 cycles; a waking
step is the step of the running state. -/
def Obligations.PowerStatesIdleAndWake : Prop :=
  ∀ s : State,
    (s.run = .halted → s.ie.extractLsb' 0 5 &&& s.ifReg = 0 → step s = .next (s.report 4).advance) ∧
    (s.run = .halted → s.ie.extractLsb' 0 5 &&& s.ifReg ≠ 0 → step s = step { s with run := .running }) ∧
    (s.run = .stopped → s.joypad.low = 0xF → step s = .next (s.report 4).advance) ∧
    (s.run = .stopped → s.joypad.low ≠ 0xF → step s = step { s with run := .running }) ∧
    (s.run = .locked → step s = .next (s.report 4).advance)

/-- R332, R338, R34: `pending()` is the lowest-numbered source whose bit is set in both IE and IF; IME and the
upper bits of IE play no part. -/
def Obligations.PendingIsLowestEnabledRequest : Prop :=
  ∀ s : State,
    (s.pending = none ↔ ∀ j : Nat, j < 5 → (s.ie.getLsbD j && s.ifReg.getLsbD j) = false) ∧
    (∀ k : Irq, s.pending = some k ↔ (s.ie.getLsbD k.bit && s.ifReg.getLsbD k.bit) = true ∧
      ∀ j : Nat, j < k.bit → (s.ie.getLsbD j && s.ifReg.getLsbD j) = false)

/-- R340 to R343: the dispatch of source k clears IME, EI_DELAY, HALT_BUG and IF[k] alone, pushes the return
address (PC, or PC - 1 with HALT_BUG set), goes to 0x0040 + 8k and reports 20 cycles; no other register
changes, and no byte that the push does not touch. -/
def Obligations.DispatchTakesInterrupt : Prop :=
  ∀ (s : State) (k : Irq), s.run = .running → s.ime = true → s.pending = some k →
    let ret := if s.haltBug then s.regs.pc - 1 else s.regs.pc
    let ws := [(s.regs.sp - 1, ret.extractLsb' 8 8), (s.regs.sp - 2, ret.extractLsb' 0 8)]
    ∃ (f : BitVec 5) (t : State),
      (∀ j : Nat, j < 5 → f.getLsbD j = (s.ifReg.getLsbD j && j != k.bit)) ∧
      t = { storeAll { s with ime := false, eiDelay := 0, haltBug := false, ifReg := f } ws with
            regs := { s.regs with sp := s.regs.sp - 2, pc := BitVec.ofNat 16 (0x0040 + 8 * k.bit) }
            cycles := 20 } ∧
      step s = .next t.advance ∧ t.run = .running ∧ t.ime = false ∧ t.eiDelay = 0 ∧ t.haltBug = false ∧
      (∀ a, a ≠ 0xFF0F → untouched s ws a = true → t.memRead a = s.memRead a)

/-- R314, R403, R313, R289, R461: an enable in flight (EI_DELAY = 1) takes effect at the end of the next
instruction, whichever it is but DI, which cancels it; nothing else but RETI sets IME. -/
def Obligations.EnableTakesEffectAfterNextInstruction : Prop :=
  (∀ (i : Instr) (s t : State), s.ime = false → s.eiDelay = 1 → exec i s = .next t →
    (t.endOfInstruction.ime = true ↔ i ≠ .di) ∧ t.endOfInstruction.eiDelay = 0) ∧
  (∀ (i : Instr) (s t : State), s.ime = false → s.eiDelay = 0 → exec i s = .next t →
    (t.endOfInstruction.ime = true ↔ i = .reti) ∧
    (i = .ei → t.endOfInstruction.eiDelay = 1) ∧ (i ≠ .ei → t.endOfInstruction.eiDelay = 0)) ∧
  (∀ s t : State, step s = .next t → s.ime = false → t.ime = true →
    s.eiDelay = 1 ∨ s.fetchInstr = some .reti)

/-! Loads, stores, stack -/

/-- R151, R152: `LD r,r'` (49 rows) and `LD r,n` (7 rows). -/
def Obligations.LoadRegister : Prop :=
  (∀ row ∈ ldRegRegRows, ∀ s : State,
    encode row.1 = [opByte 1 (regCode row.2.1) (regCode row.2.2)] ∧
    RegsOnly row.1 s 4 (s.regs.set row.2.1 (s.regs.get row.2.2))) ∧
  (∀ n : Byte, ∀ row ∈ ldRegImmRows n, ∀ s : State,
    encode row.1 = [opByte 0 (regCode row.2) 6, n] ∧ RegsOnly row.1 s 8 (s.regs.set row.2 n))

/-- R150, R153, R156, R157, R160, R162, R164: the effective addresses, and the loads from memory. -/
def Obligations.LoadFromMemory : Prop :=
  (∀ (s : State) (nn : Word) (n : Byte),
    (s.ea .hl).toNat = s.regs.h.toNat * 256 + s.regs.l.toNat ∧
    (s.ea .bc).toNat = s.regs.b.toNat * 256 + s.regs.c.toNat ∧
    (s.ea .de).toNat = s.regs.d.toNat * 256 + s.regs.e.toNat ∧
    s.ea (.abs nn) = nn ∧ (s.ea (.high n)).toNat = 0xFF00 + n.toNat ∧
    (s.ea .highC).toNat = 0xFF00 + s.regs.c.toNat) ∧
  (∀ row ∈ ldRegMemRows, ∀ s : State,
    encode row.1 = [opByte 1 (regCode row.2) 6] ∧
    RegsOnly row.1 s 8 (s.regs.set row.2 (s.memRead (s.ea .hl)))) ∧
  (∀ (n : Byte) (nn : Word), ∀ row ∈ ldAMemRows n nn, ∀ s : State,
    encode row.1 = row.2.2.2 ∧
    RegsOnly row.1 s row.2.2.1 { s.regs with a := s.memRead (s.ea row.2.1) })

/-- R154, R155, R158, R159, R161, R163, R165: stores to memory. -/
def Obligations.StoreToMemory : Prop :=
  (∀ row ∈ ldMemRegRows, ∀ s : State,
    encode row.1 = [opByte 1 6 (regCode row.2)] ∧
    Stores row.1 s 8 s.regs [(s.ea .hl, s.regs.get row.2)]) ∧
  (∀ (n : Byte) (s : State), encode (.ldMemHLN n) = [0x36, n] ∧
    Stores (.ldMemHLN n) s 12 s.regs [(s.ea .hl, n)]) ∧
  (∀ (n : Byte) (nn : Word), ∀ row ∈ ldMemARows n nn, ∀ s : State,
    encode row.1 = row.2.2.2 ∧
    Stores row.1 s row.2.2.1 s.regs [(s.ea row.2.1, s.regs.a)])

/-- R166 to R169: loads and stores of A with HL incremented or decremented after the access. -/
def Obligations.PostModifiedTransfers : Prop :=
  ∀ (s : State) (up down : Word), up = s.ea .hl + 1 → down = s.ea .hl - 1 →
    let after (r : Regs) (v : Word) : Regs := { r with h := v.extractLsb' 8 8, l := v.extractLsb' 0 8 }
    encode .ldAMemHLInc = [0x2A] ∧ encode .ldAMemHLDec = [0x3A] ∧
    encode .ldMemHLIncA = [0x22] ∧ encode .ldMemHLDecA = [0x32] ∧
    RegsOnly .ldAMemHLInc s 8 (after { s.regs with a := s.memRead (s.ea .hl) } up) ∧
    RegsOnly .ldAMemHLDec s 8 (after { s.regs with a := s.memRead (s.ea .hl) } down) ∧
    Stores .ldMemHLIncA s 8 (after s.regs up) [(s.ea .hl, s.regs.a)] ∧
    Stores .ldMemHLDecA s 8 (after s.regs down) [(s.ea .hl, s.regs.a)]

/-- R170, R171, R175, R63: the 16-bit loads. -/
def Obligations.SixteenBitLoads : Prop :=
  ∀ (s : State) (nn : Word),
    let hi := nn.extractLsb' 8 8
    let lo := nn.extractLsb' 0 8
    encode (.ldBCNN nn) = [0x01, lo, hi] ∧ encode (.ldDENN nn) = [0x11, lo, hi] ∧
    encode (.ldHLNN nn) = [0x21, lo, hi] ∧ encode (.ldSPNN nn) = [0x31, lo, hi] ∧
    encode (.ldMemNNSP nn) = [0x08, lo, hi] ∧ encode .ldSPHL = [0xF9] ∧
    RegsOnly (.ldBCNN nn) s 12 { s.regs with b := hi, c := lo } ∧
    RegsOnly (.ldDENN nn) s 12 { s.regs with d := hi, e := lo } ∧
    RegsOnly (.ldHLNN nn) s 12 { s.regs with h := hi, l := lo } ∧
    RegsOnly (.ldSPNN nn) s 12 { s.regs with sp := nn } ∧
    RegsOnly .ldSPHL s 8 { s.regs with sp := s.regs.h ++ s.regs.l } ∧
    Stores (.ldMemNNSP nn) s 20 s.regs
      [(nn, s.regs.sp.extractLsb' 0 8), (nn + 1, s.regs.sp.extractLsb' 8 8)]

/-- R172: PUSH stores the high byte at SP - 1, then the low byte at SP - 2. -/
def Obligations.PushStoresPair : Prop :=
  ∀ s : State,
    let push (hi lo : Byte) := [(s.regs.sp - 1, hi), (s.regs.sp - 2, lo)]
    let r : Regs := { s.regs with sp := s.regs.sp - 2 }
    encode .pushBC = [0xC5] ∧ encode .pushDE = [0xD5] ∧ encode .pushHL = [0xE5] ∧ encode .pushAF = [0xF5] ∧
    Stores .pushBC s 16 r (push s.regs.b s.regs.c) ∧ Stores .pushDE s 16 r (push s.regs.d s.regs.e) ∧
    Stores .pushHL s 16 r (push s.regs.h s.regs.l) ∧ Stores .pushAF s 16 r (push s.regs.a s.regs.f)

/-- R173, R174: POP loads the low byte from SP and the high byte from SP + 1; `POP AF` masks F. -/
def Obligations.PopLoadsPair : Prop :=
  ∀ s : State,
    let lo := s.memRead s.regs.sp
    let hi := s.memRead (s.regs.sp + 1)
    let r : Regs := { s.regs with sp := s.regs.sp + 2 }
    encode .popBC = [0xC1] ∧ encode .popDE = [0xD1] ∧ encode .popHL = [0xE1] ∧ encode .popAF = [0xF1] ∧
    RegsOnly .popBC s 12 { r with b := hi, c := lo } ∧ RegsOnly .popDE s 12 { r with d := hi, e := lo } ∧
    RegsOnly .popHL s 12 { r with h := hi, l := lo } ∧
    RegsOnly .popAF s 12 { r with
      a := hi, f := flagByte (lo.getLsbD 7) (lo.getLsbD 6) (lo.getLsbD 5) (lo.getLsbD 4) }

/-! 8-bit arithmetic -/

/-- R192 to R197: ADD and ADC, 18 rows. -/
def Obligations.AddWithAndWithoutCarry : Prop :=
  ∀ n : Byte, ∀ row ∈ addRows n, ∀ s : State,
    let (i, op, src, cost, bytes) := row
    let a := s.regs.a.toNat
    let b := (src.value s).toNat
    let c := if op = .adc then (s.regs.f.getLsbD 4).toNat else 0
    let r := a + b + c
    encode i = bytes ∧
    RegsOnly i s cost { s.regs with
      a := BitVec.ofNat 8 r
      f := flagByte (r % 256 == 0) false (decide (15 < a % 16 + b % 16 + c)) (decide (255 < r)) }

/-- R198 to R203, R213 to R215: SUB, SBC and CP, 27 rows; CP leaves A. -/
def Obligations.SubtractAndCompare : Prop :=
  ∀ n : Byte, ∀ row ∈ subRows n, ∀ s : State,
    let (i, op, src, cost, bytes) := row
    let a := s.regs.a.toNat
    let b := (src.value s).toNat
    let c := if op = .sbc then (s.regs.f.getLsbD 4).toNat else 0
    let r := (a + 512 - b - c) % 256
    encode i = bytes ∧
    RegsOnly i s cost { s.regs with
      a := if op = .cp then s.regs.a else BitVec.ofNat 8 r
      f := flagByte (r == 0) true (decide (a % 16 < b % 16 + c)) (decide (a < b + c)) }

/-- R204 to R212: AND, XOR and OR, 27 rows. -/
def Obligations.LogicOperations : Prop :=
  ∀ n : Byte, ∀ row ∈ logicRows n, ∀ s : State,
    let (i, op, src, cost, bytes) := row
    let b := src.value s
    let v := if op = .and then s.regs.a &&& b else if op = .xor then s.regs.a ^^^ b else s.regs.a ||| b
    encode i = bytes ∧
    RegsOnly i s cost { s.regs with a := v, f := flagByte (v == 0) false (op == .and) false }

/-- R216 to R219: INC and DEC on a register or (HL); C is kept. -/
def Obligations.IncrementDecrementByte : Prop :=
  ∀ s : State,
    let keptC := s.regs.f.getLsbD 4
    let incF (v : Byte) := flagByte (v + 1 == 0) false (v.toNat % 16 == 15) keptC
    let decF (v : Byte) := flagByte (v - 1 == 0) true (v.toNat % 16 == 0) keptC
    let m := s.memRead (s.ea .hl)
    (∀ row ∈ incRegRows, encode row.1 = [opByte 0 (regCode row.2) 4] ∧
      RegsOnly row.1 s 4
        { s.regs.set row.2 (s.regs.get row.2 + 1) with f := incF (s.regs.get row.2) }) ∧
    (∀ row ∈ decRegRows, encode row.1 = [opByte 0 (regCode row.2) 5] ∧
      RegsOnly row.1 s 4
        { s.regs.set row.2 (s.regs.get row.2 - 1) with f := decF (s.regs.get row.2) }) ∧
    encode .incMemHL = [0x34] ∧ encode .decMemHL = [0x35] ∧
    Stores .incMemHL s 12 { s.regs with f := incF m } [(s.ea .hl, m + 1)] ∧
    Stores .decMemHL s 12 { s.regs with f := decF m } [(s.ea .hl, m - 1)]

/-- R220: DAA, for every A and every flag combination. -/
def Obligations.DecimalAdjust : Prop :=
  ∀ s : State,
    let a := s.regs.a.toNat
    let n := s.regs.f.getLsbD 6
    let h := s.regs.f.getLsbD 5
    let c := s.regs.f.getLsbD 4
    let high := c || decide (0x99 < a)
    let low := h || decide (9 < a % 16)
    let r := if n then (a + 512 - (if c then 0x60 else 0) - (if h then 0x06 else 0)) % 256
      else (a + (if high then 0x60 else 0) + (if low then 0x06 else 0)) % 256
    encode .daa = [0x27] ∧
    RegsOnly .daa s 4 { s.regs with
      a := BitVec.ofNat 8 r, f := flagByte (r == 0) n false (if n then c else high) }

/-- R221 to R223: CPL, SCF and CCF. -/
def Obligations.ComplementAndCarryFlag : Prop :=
  ∀ s : State,
    let z := s.regs.f.getLsbD 7
    let c := s.regs.f.getLsbD 4
    encode .cpl = [0x2F] ∧ encode .scf = [0x37] ∧ encode .ccf = [0x3F] ∧
    RegsOnly .cpl s 4 { s.regs with
      a := BitVec.ofNat 8 (255 - s.regs.a.toNat), f := flagByte z true true c } ∧
    RegsOnly .scf s 4 { s.regs with f := flagByte z false false true } ∧
    RegsOnly .ccf s 4 { s.regs with f := flagByte z false false (!c) }

/-! 16-bit arithmetic -/

/-- R231: `ADD HL,rr`; Z is kept. -/
def Obligations.AddToHl : Prop :=
  ∀ row ∈ addHlRows, ∀ s : State,
    let a := (s.pair .hl).toNat
    let b := (s.pair row.2).toNat
    let r := BitVec.ofNat 16 (a + b)
    encode row.1 = [opByteP 0 (pairCode row.2) 1 1] ∧
    RegsOnly row.1 s 8 { s.regs with
      h := r.extractLsb' 8 8, l := r.extractLsb' 0 8
      f := flagByte (s.regs.f.getLsbD 7) false (decide (0x0FFF < a % 4096 + b % 4096))
        (decide (0xFFFF < a + b)) }

/-- R232, R233, R236: `INC rr` and `DEC rr` wrap, write no flag and access no memory. -/
def Obligations.IncrementDecrementPair : Prop :=
  (∀ row ∈ incPairRows, ∀ s : State,
    encode row.1 = [opByteP 0 (pairCode row.2) 0 3] ∧
    RegsOnly row.1 s 8 (s.regs.setPair row.2 (BitVec.ofNat 16 ((s.pair row.2).toNat + 1)))) ∧
  (∀ row ∈ decPairRows, ∀ s : State,
    encode row.1 = [opByteP 0 (pairCode row.2) 1 3] ∧
    RegsOnly row.1 s 8 (s.regs.setPair row.2 (BitVec.ofNat 16 ((s.pair row.2).toNat + 65535))))

/-- R234, R235: `ADD SP,e` and `LD HL,SP+e`: a signed displacement, unsigned low-byte flags. -/
def Obligations.StackPointerOffset : Prop :=
  ∀ (s : State) (e : Byte),
    let sp := s.regs.sp.toNat
    let v := BitVec.ofNat 16 (sp + e.toNat + (if e.toNat < 128 then 0 else 0xFF00))
    let f := flagByte false false (decide (15 < sp % 16 + e.toNat % 16)) (decide (255 < sp % 256 + e.toNat))
    encode (.addSPE8 e) = [0xE8, e] ∧ encode (.ldHLSPE e) = [0xF8, e] ∧
    RegsOnly (.addSPE8 e) s 16 { s.regs with sp := v, f := f } ∧
    RegsOnly (.ldHLSPE e) s 12 { s.regs with h := v.extractLsb' 8 8, l := v.extractLsb' 0 8, f := f }

/-! Rotates, shifts, bits -/

/-- R251 to R254: the accumulator rotates; Z is always 0. -/
def Obligations.AccumulatorRotates : Prop :=
  ∀ s : State,
    let a := s.regs.a.toNat
    let c := (s.regs.f.getLsbD 4).toNat
    let out (v : Nat) (c' : Bool) : Regs :=
      { s.regs with a := BitVec.ofNat 8 v, f := flagByte false false false c' }
    encode .rlca = [0x07] ∧ encode .rrca = [0x0F] ∧ encode .rla = [0x17] ∧ encode .rra = [0x1F] ∧
    RegsOnly .rlca s 4 (out (2 * a + a / 128) (s.regs.a.getLsbD 7)) ∧
    RegsOnly .rrca s 4 (out (a / 2 + 128 * (a % 2)) (s.regs.a.getLsbD 0)) ∧
    RegsOnly .rla s 4 (out (2 * a + c) (s.regs.a.getLsbD 7)) ∧
    RegsOnly .rra s 4 (out (a / 2 + 128 * c) (s.regs.a.getLsbD 0))

/-- R255, R257, R259, R261, R263, R265, R267, R269: the prefixed rotates and shifts of a register, 56 rows. -/
def Obligations.ShiftsOfRegisters : Prop :=
  ∀ row ∈ shiftRegRows, ∀ s : State,
    let (i, op, reg) := row
    let v := (s.regs.get reg).toNat
    let c := (s.regs.f.getLsbD 4).toNat
    let r := (match op with
      | .rlc => 2 * v + v / 128
      | .rrc => v / 2 + 128 * (v % 2)
      | .rl => 2 * v + c
      | .rr => v / 2 + 128 * c
      | .sla => 2 * v
      | .sra => v / 2 + 128 * (v / 128)
      | .swap => 16 * v + v / 16
      | .srl => v / 2) % 256
    let c' := if op = .swap then false
      else if op = .rlc ∨ op = .rl ∨ op = .sla then v / 128 == 1 else v % 2 == 1
    encode i = [0xCB, opByte 0 (shiftCode op) (regCode reg)] ∧
    RegsOnly i s 8
      { s.regs.set reg (BitVec.ofNat 8 r) with f := flagByte (r == 0) false false c' }

/-- R256, R258, R260, R262, R264, R266, R268, R270: the same on the byte at HL, 8 rows: one read, one write. -/
def Obligations.ShiftsOfMemory : Prop :=
  ∀ row ∈ shiftMemRows, ∀ s : State,
    let (i, op) := row
    let v := (s.memRead (s.ea .hl)).toNat
    let c := (s.regs.f.getLsbD 4).toNat
    let r := (match op with
      | .rlc => 2 * v + v / 128
      | .rrc => v / 2 + 128 * (v % 2)
      | .rl => 2 * v + c
      | .rr => v / 2 + 128 * c
      | .sla => 2 * v
      | .sra => v / 2 + 128 * (v / 128)
      | .swap => 16 * v + v / 16
      | .srl => v / 2) % 256
    let c' := if op = .swap then false
      else if op = .rlc ∨ op = .rl ∨ op = .sla then v / 128 == 1 else v % 2 == 1
    encode i = [0xCB, opByte 0 (shiftCode op) 6] ∧
    Stores i s 16 { s.regs with f := flagByte (r == 0) false false c' }
      [(s.ea .hl, BitVec.ofNat 8 r)]

/-- R271, R272: BIT sets Z to the complement of the bit, N to 0, H to 1, and keeps C; nothing is written. -/
def Obligations.BitTests : Prop :=
  (∀ row ∈ bitRegRows, ∀ s : State,
    let (i, b, reg) := row
    encode i = [0xCB, opByte 1 b (regCode reg)] ∧
    RegsOnly i s 8 { s.regs with
      f := flagByte (!(s.regs.get reg).getLsbD b.toNat) false true (s.regs.f.getLsbD 4) }) ∧
  (∀ row ∈ bitMemRows, ∀ s : State,
    let (i, b) := row
    encode i = [0xCB, opByte 1 b 6] ∧
    RegsOnly i s 12 { s.regs with
      f := flagByte (!(s.memRead (s.ea .hl)).getLsbD b.toNat) false true (s.regs.f.getLsbD 4) })

/-- R273 to R276: RES and SET clear or set one bit and keep the others and the flags. -/
def Obligations.BitResetAndSet : Prop :=
  ∀ (s : State) (value : Bool),
    let put (v : Byte) (b : BitVec 3) (w : Byte) : Prop :=
      ∀ j : Nat, j < 8 → w.getLsbD j = if j = b.toNat then value else v.getLsbD j
    let x : BitVec 2 := if value then 3 else 2
    (∀ row ∈ (if value then setRegRows else resRegRows), ∃ w : Byte,
      put (s.regs.get row.2.2) row.2.1 w ∧ encode row.1 = [0xCB, opByte x row.2.1 (regCode row.2.2)] ∧
      RegsOnly row.1 s 8 (s.regs.set row.2.2 w)) ∧
    (∀ row ∈ (if value then setMemRows else resMemRows), ∃ w : Byte,
      put (s.memRead (s.ea .hl)) row.2 w ∧ encode row.1 = [0xCB, opByte x row.2 6] ∧
      Stores row.1 s 16 s.regs [(s.ea .hl, w)])

/-! Control transfer -/

/-- R281 to R285, R126: the jumps; a relative target counts from the byte after the instruction. -/
def Obligations.JumpsAndConditions : Prop :=
  ∀ (s : State) (nn : Word) (e : Byte),
    let rel := BitVec.ofNat 16 (s.regs.pc.toNat + e.toNat + (if e.toNat < 128 then 0 else 0xFF00))
    let holds (cc : Cond) : Bool := match cc with
      | .nz => !s.regs.f.getLsbD 7
      | .z => s.regs.f.getLsbD 7
      | .nc => !s.regs.f.getLsbD 4
      | .c => s.regs.f.getLsbD 4
    let jump (v : Word) : Regs := { s.regs with pc := v }
    encode (.jpNN nn) = [0xC3, nn.extractLsb' 0 8, nn.extractLsb' 8 8] ∧ encode .jpHL = [0xE9] ∧
    encode (.jrE8 e) = [0x18, e] ∧
    RegsOnly (.jpNN nn) s 16 (jump nn) ∧ RegsOnly .jpHL s 4 (jump (s.regs.h ++ s.regs.l)) ∧
    RegsOnly (.jrE8 e) s 12 (jump rel) ∧
    (∀ row ∈ jpCondRows nn,
      encode row.1 = [opByte 3 (0#1 ++ condCode row.2) 2, nn.extractLsb' 0 8, nn.extractLsb' 8 8] ∧
      (holds row.2 = true → RegsOnly row.1 s 16 (jump nn)) ∧
      (holds row.2 = false → RegsOnly row.1 s 12 s.regs)) ∧
    (∀ row ∈ jrCondRows e,
      encode row.1 = [opByte 0 (1#1 ++ condCode row.2) 0, e] ∧
      (holds row.2 = true → RegsOnly row.1 s 12 (jump rel)) ∧
      (holds row.2 = false → RegsOnly row.1 s 8 s.regs))

/-- R286, R287, R291: CALL, CALL cc and RST push PC, the address after the instruction; a call that is not
taken changes nothing. -/
def Obligations.CallsAndRestarts : Prop :=
  ∀ (s : State) (nn : Word),
    let push := [(s.regs.sp - 1, s.regs.pc.extractLsb' 8 8), (s.regs.sp - 2, s.regs.pc.extractLsb' 0 8)]
    let jump (v : Word) : Regs := { s.regs with sp := s.regs.sp - 2, pc := v }
    let holds (cc : Cond) : Bool := match cc with
      | .nz => !s.regs.f.getLsbD 7
      | .z => s.regs.f.getLsbD 7
      | .nc => !s.regs.f.getLsbD 4
      | .c => s.regs.f.getLsbD 4
    encode (.callNN nn) = [0xCD, nn.extractLsb' 0 8, nn.extractLsb' 8 8] ∧
    Stores (.callNN nn) s 24 (jump nn) push ∧
    (∀ row ∈ callCondRows nn,
      encode row.1 = [opByte 3 (0#1 ++ condCode row.2) 4, nn.extractLsb' 0 8, nn.extractLsb' 8 8] ∧
      (holds row.2 = true → Stores row.1 s 24 (jump nn) push) ∧
      (holds row.2 = false → RegsOnly row.1 s 12 s.regs)) ∧
    (∀ row ∈ rstRows, encode row.1 = [opByte 3 row.2 7] ∧
      Stores row.1 s 16 (jump (BitVec.ofNat 16 (8 * row.2.toNat))) push)

/-- R288 to R290: RET, RETI and RET cc pop PC; RETI sets IME at once. -/
def Obligations.Returns : Prop :=
  ∀ s : State,
    let back : Regs := { s.regs with
      sp := s.regs.sp + 2, pc := s.memRead (s.regs.sp + 1) ++ s.memRead s.regs.sp }
    let holds (cc : Cond) : Bool := match cc with
      | .nz => !s.regs.f.getLsbD 7
      | .z => s.regs.f.getLsbD 7
      | .nc => !s.regs.f.getLsbD 4
      | .c => s.regs.f.getLsbD 4
    encode .ret = [0xC9] ∧ encode .reti = [0xD9] ∧
    RegsOnly .ret s 16 back ∧
    (∃ t, exec .reti s = .next t ∧ t = { s with regs := back, ime := true, eiDelay := 0, cycles := 16 } ∧
      ∀ a, t.memRead a = s.memRead a) ∧
    (∀ row ∈ retCondRows, encode row.1 = [opByte 3 (0#1 ++ condCode row.2) 0] ∧
      (holds row.2 = true → RegsOnly row.1 s 20 back) ∧
      (holds row.2 = false → RegsOnly row.1 s 8 s.regs))

/-! System instructions -/

/-- R310 to R314: NOP, HALT with both of its branches, STOP, DI and EI. -/
def Obligations.SystemInstructions : Prop :=
  ∀ (s : State) (n : Byte),
    let quiet (i : Instr) (t : State) : Prop := exec i s = .next t ∧ ∀ a, t.memRead a = s.memRead a
    encode .nop = [0x00] ∧ encode .halt = [0x76] ∧ encode (.stop n) = [0x10, n] ∧ encode .di = [0xF3] ∧
    encode .ei = [0xFB] ∧
    RegsOnly .nop s 4 s.regs ∧
    (s.ime = true ∨ s.ie.extractLsb' 0 5 &&& s.ifReg = 0 →
      quiet .halt { s with run := .halted, cycles := 4 }) ∧
    (s.ime = false → s.ie.extractLsb' 0 5 &&& s.ifReg ≠ 0 →
      quiet .halt { s with haltBug := true, cycles := 4 }) ∧
    (∃ t, exec (.stop n) s = .next t ∧
      t = { s with timer := { s.timer with div := 0, divSub := 0 }, run := .stopped, cycles := 4 } ∧
      t.memRead 0xFF04 = 0 ∧ ∀ a, a ≠ 0xFF04 → t.memRead a = s.memRead a) ∧
    quiet .di { s with ime := false, eiDelay := 0, cycles := 4 } ∧
    (s.ime = false → s.eiDelay = 0 → quiet .ei { s with eiDelay := 2, cycles := 4 }) ∧
    (s.ime = true ∨ s.eiDelay ≠ 0 → quiet .ei { s with cycles := 4 })

/-! The bus -/

/-- R61, R64, R69, R76: the plain arrays read back what was written, WRAM through its echo too; the unusable
range reads 0xFF and ignores writes. -/
def Obligations.PlainMemoryReadsBack : Prop :=
  ∀ (s : State) (a : Word) (v : Byte), s.mem.wf = true →
    let n := a.toNat
    ((0x8000 ≤ n ∧ n < 0xA000) ∨ (0xC000 ≤ n ∧ n < 0xFEA0) ∨ 0xFF80 ≤ n →
      (s.memWrite a v).memRead a = v) ∧
    (0xC000 ≤ n ∧ n < 0xDE00 →
      s.memRead (a + 0x2000) = s.memRead a ∧ (s.memWrite (a + 0x2000) v).memRead a = v ∧
      (s.memWrite a v).memRead (a + 0x2000) = v) ∧
    (0xFEA0 ≤ n ∧ n < 0xFF00 → s.memRead a = 0xFF ∧ s.memWrite a v = s)

/-- R64, R68, R78: a write changes the read value of no address but those `touches` lists; it never changes the
CPU's registers, run state or IME, nor the image. -/
def Obligations.WriteTouchesOnlyItsBytes : Prop :=
  ∀ (s : State) (w : Word) (v : Byte),
    (∀ a, s.touches w a = false → (s.memWrite w v).memRead a = s.memRead a) ∧
    (s.memWrite w v).regs = s.regs ∧ ControlKept s (s.memWrite w v) ∧
    (∀ k, s.mem.cart = some k → ∃ k', (s.memWrite w v).mem.cart = some k' ∧ k'.rom = k.rom ∧
      k'.nrom = k.nrom ∧ k'.ramSize = k.ramSize) ∧
    (s.mem.cart = none → (s.memWrite w v).mem.cart = none)

/-- R75, R76, R81, R365 to R368: what each register of the I/O window reads after a write of v (P1's lines are those
JoypadLinesAndRequest gives), and exactly what the writes to the timer's registers change. -/
def Obligations.IoRegistersReadBack : Prop :=
  ∀ (s : State) (v : Byte), s.mem.wf = true →
    let back (a : Word) : Byte := (s.memWrite a v).memRead a
    (∀ a ∈ ([0xFF01, 0xFF05, 0xFF06, 0xFF40, 0xFF42, 0xFF43, 0xFF45, 0xFF46, 0xFF47, 0xFF48, 0xFF49,
      0xFF4A, 0xFF4B] : List Word), back a = v) ∧
    (∀ a : Word, 0xFF10 ≤ a.toNat ∧ a.toNat < 0xFF40 → back a = v) ∧
    back 0xFF00 = BitVec.ofNat 8 (0xC0 + 16 * (v.toNat / 16 % 4) +
      ({ s.joypad with p1Sel := BitVec.ofNat 2 (v.toNat / 16) } : Joypad).low.toNat) ∧
    back 0xFF02 = 0x7E ||| (v &&& 0x81) ∧ back 0xFF04 = 0 ∧ back 0xFF07 = 0xF8 ||| (v &&& 0x07) ∧
    back 0xFF0F = 0xE0 ||| (v &&& 0x1F) ∧
    back 0xFF41 = 0x80 ||| (v &&& 0x78) ||| (s.memRead 0xFF41 &&& 0x07) ∧
    s.memWrite 0xFF44 v = s ∧ back 0xFF50 = 0xFF ∧
    (s.memWrite 0xFF50 v).bootMapped = (s.bootMapped && v == 0) ∧
    s.memWrite 0xFF04 v = { s with timer := { s.timer with div := 0, divSub := 0 } } ∧
    s.memWrite 0xFF05 v = { s with timer := { s.timer with tima := v, reloadPending := 0 } } ∧
    s.memWrite 0xFF06 v = { s with timer := { s.timer with tma := v } } ∧
    s.memWrite 0xFF07 v = { s with timer := { s.timer with tac := BitVec.ofNat 3 v.toNat } } ∧
    (∀ a : Word, a = 0xFF03 ∨ (0xFF08 ≤ a.toNat ∧ a.toNat < 0xFF0F) ∨
      (0xFF4C ≤ a.toNat ∧ a.toNat < 0xFF50) ∨ (0xFF51 ≤ a.toNat ∧ a.toNat < 0xFF80) →
      s.memRead a = 0xFF ∧ s.memWrite a v = s)

/-- R84: a write to DMA copies 160 bytes from page v, each as the bus reads it, and leaves every other byte; a
source byte in the DMA register itself is the value just written. -/
def Obligations.OamDmaCopiesPage : Prop :=
  ∀ (s : State) (v : Byte), s.mem.wf = true →
    let t := s.memWrite 0xFF46 v
    let before (a : Word) : Byte := if a = 0xFF46 then v else s.memRead a
    (∀ i : Nat, i < 160 →
      t.memRead (BitVec.ofNat 16 (0xFE00 + i)) = before (BitVec.ofNat 16 (v.toNat * 256 + i))) ∧
    (∀ a : Word, a.toNat < 0xFE00 ∨ 0xFEA0 ≤ a.toNat → t.memRead a = before a) ∧
    t.cycles = s.cycles

/-- R68, R94 to R98: the bank registers of each controller and what each write range does to them. -/
def Obligations.BankRegisterWrites : Prop :=
  ∀ (s : State) (k : Cart) (a : Word) (v : Byte), s.mem.cart = some k → a.toNat < 0x8000 →
    let n := a.toNat
    let en' := v.toNat % 16 == 10
    let after (m : Mbc) : Prop := (s.memWrite a v).mem.cart = some { k with mbc := m }
    (∀ en b1 b2 md, k.mbc = .mbc1 en b1 b2 md →
      (n < 0x2000 → after (.mbc1 en' b1 b2 md)) ∧
      (0x2000 ≤ n ∧ n < 0x4000 →
        after (.mbc1 en (if v.toNat % 32 = 0 then 1 else BitVec.ofNat 5 v.toNat) b2 md)) ∧
      (0x4000 ≤ n ∧ n < 0x6000 → after (.mbc1 en b1 (BitVec.ofNat 2 v.toNat) md)) ∧
      (0x6000 ≤ n → after (.mbc1 en b1 b2 (v.toNat % 2 == 1)))) ∧
    (∀ en rb ra, k.mbc = .mbc3 en rb ra →
      (n < 0x2000 → after (.mbc3 en' rb ra)) ∧
      (0x2000 ≤ n ∧ n < 0x4000 →
        after (.mbc3 en (if v.toNat % 128 = 0 then 1 else BitVec.ofNat 7 v.toNat) ra)) ∧
      (0x4000 ≤ n ∧ n < 0x6000 → after (.mbc3 en rb v)) ∧ (0x6000 ≤ n → after k.mbc)) ∧
    (∀ en rb, k.mbc = .mbc2 en rb →
      (n < 0x4000 → a.getLsbD 8 = false → after (.mbc2 en' rb)) ∧
      (n < 0x4000 → a.getLsbD 8 = true →
        after (.mbc2 en (if v.toNat % 16 = 0 then 1 else BitVec.ofNat 4 v.toNat))) ∧
      (0x4000 ≤ n → after k.mbc)) ∧
    (∀ en rb ra, k.mbc = .mbc5 en rb ra →
      (n < 0x2000 → after (.mbc5 en' rb ra)) ∧
      (0x2000 ≤ n ∧ n < 0x3000 → after (.mbc5 en (BitVec.ofNat 9 (rb.toNat / 256 * 256 + v.toNat)) ra)) ∧
      (0x3000 ≤ n ∧ n < 0x4000 →
        after (.mbc5 en (BitVec.ofNat 9 (v.toNat % 2 * 256 + rb.toNat % 256)) ra)) ∧
      (0x4000 ≤ n ∧ n < 0x6000 → after (.mbc5 en rb (BitVec.ofNat 4 v.toNat))) ∧
      (0x6000 ≤ n → after k.mbc)) ∧
    (k.mbc = .noController → s.memWrite a v = s)

/-- R66, R67, R70, R94 to R98, R431: the boot ROM's byte where the overlay is mapped; elsewhere which byte of the
image each controller maps; which byte of external RAM a read gives and a write stores into, or that the one gives
0xFF and the other changes nothing; with no image both windows read 0xFF and ignore writes. -/
def Obligations.BankMapping : Prop :=
  ∀ (s : State) (a : Word),
    let bare := s.bootMapped = false ∨ s.cfg.bootRom = none ∨ 0x100 ≤ a.toNat
    let low := a.toNat < 0x4000 ∧ bare
    let high := 0x4000 ≤ a.toNat ∧ a.toNat < 0x8000
    let window := 0xA000 ≤ a.toNat ∧ a.toNat < 0xC000
    (∀ boot v, s.cfg.bootRom = some boot → s.bootMapped = true → a.toNat < 0x100 → boot[a.toNat]? = some v →
      s.memRead a = v) ∧
    (∀ k, s.mem.cart = some k →
      let rom (bank : Nat) : Byte := k.rom.read (bank % k.nrom * 0x4000 + a.toNat % 0x4000)
      let stores (i : Nat) (w : Byte) (t : State) : Prop :=
        ∃ k', t = { s with mem := { s.mem with cart := some k' } } ∧ k' = { k with xram := k'.xram } ∧
          ∀ j, k'.xram.read j = if j = i then w else k.xram.read j
      let off : Prop := s.memRead a = 0xFF ∧ ∀ v, s.memWrite a v = s
      let bank (b : Nat) : Prop :=
        let i := (b % max 1 (k.ramSize / 8192) * 0x2000 + a.toNat % 0x2000) % k.ramSize
        s.memRead a = k.xram.read i ∧ (s.mem.wf = true → ∀ v, stores i v (s.memWrite a v))
      let nibble : Prop := s.memRead a = 0xF0 ||| k.xram.read (a.toNat % 512) ∧
        (s.mem.wf = true → ∀ v, stores (a.toNat % 512) (v &&& 0x0F) (s.memWrite a v))
      (window → k.ramSize = 0 → off) ∧
      (k.mbc = .noController → (low → s.memRead a = rom 0) ∧ (high → s.memRead a = rom 1) ∧
        (window → 0 < k.ramSize → bank 0)) ∧
      (∀ en b1 b2 md, k.mbc = .mbc1 en b1 b2 md →
        (low → s.memRead a = rom (if md then b2.toNat * 32 else 0)) ∧
        (high → s.memRead a = rom (b2.toNat * 32 + b1.toNat)) ∧
        (window → 0 < k.ramSize → if en then bank (if md then b2.toNat else 0) else off)) ∧
      (∀ en rb, k.mbc = .mbc2 en rb → (low → s.memRead a = rom 0) ∧ (high → s.memRead a = rom rb.toNat) ∧
        (window → 0 < k.ramSize → if en then nibble else off)) ∧
      (∀ en rb ra, k.mbc = .mbc3 en rb ra →
        (low → s.memRead a = rom 0) ∧ (high → s.memRead a = rom rb.toNat) ∧
        (window → 0 < k.ramSize → if en = true ∧ ra.toNat ≤ 7 then bank ra.toNat else off)) ∧
      (∀ en rb ra, k.mbc = .mbc5 en rb ra →
        (low → s.memRead a = rom 0) ∧ (high → s.memRead a = rom rb.toNat) ∧
        (window → 0 < k.ramSize → if en then bank ra.toNat else off))) ∧
    (s.mem.cart = none → a.toNat < 0x8000 ∨ window →
      (bare → s.memRead a = 0xFF) ∧ ∀ v, s.memWrite a v = s)

/-! Joypad, timer, PPU -/

/-- R75 (P1), R81, R394, R453: the read value of P1; a write to P1 stores P1_SEL, set_button_state sets its button;
each then holds the lines in P1_LOW_PREV, makes the joypad request exactly when a line goes from 1 to 0, and
changes nothing else. -/
def Obligations.JoypadLinesAndRequest : Prop :=
  ∀ s : State,
    let b := s.joypad.buttons
    let checked (j : Joypad) (t : State) : Prop :=
      t = { s with joypad := { j with p1LowPrev := j.low }, ifReg := t.ifReg } ∧
      (∀ n : Nat, n < 4 → t.ifReg.getLsbD n = s.ifReg.getLsbD n) ∧
      (t.ifReg.getLsbD 4 = true ↔ s.ifReg.getLsbD 4 = true ∨
        ∃ n : Nat, n < 4 ∧ s.joypad.p1LowPrev.getLsbD n = true ∧ j.low.getLsbD n = false)
    let pressed (b' : Buttons) (t : State) : Prop := checked { s.joypad with buttons := b' } t
    (∀ n : Nat, n < 4 → s.joypad.low.getLsbD n =
      !((!s.joypad.p1Sel.getLsbD 0 && [b.right, b.left, b.up, b.down].getD n false) ||
        (!s.joypad.p1Sel.getLsbD 1 && [b.a, b.b, b.select, b.start].getD n false))) ∧
    s.memRead 0xFF00 = BitVec.ofNat 8 (0xC0 + 16 * s.joypad.p1Sel.toNat + s.joypad.low.toNat) ∧
    (∀ v, checked { s.joypad with p1Sel := BitVec.ofNat 2 (v.toNat / 16) } (s.memWrite 0xFF00 v)) ∧
    (∀ p, pressed { b with right := p } (s.setButtonState .right p) ∧
      pressed { b with left := p } (s.setButtonState .left p) ∧
      pressed { b with up := p } (s.setButtonState .up p) ∧
      pressed { b with down := p } (s.setButtonState .down p) ∧
      pressed { b with a := p } (s.setButtonState .a p) ∧
      pressed { b with b := p } (s.setButtonState .b p) ∧
      pressed { b with select := p } (s.setButtonState .select p) ∧
      pressed { b with start := p } (s.setButtonState .start p))

/-- R361: the divider counts every DIV_PERIOD cycles whatever TAC holds; n cycles of the timer unit change it by
that alone, and with the counter off and no reload in flight they request nothing. -/
def Obligations.DividerLaw : Prop :=
  ∀ (s : State) (n : Nat), 0 < s.cfg.params.divPeriod → s.timer.divSub < s.cfg.params.divPeriod →
    let t := s.timerAdvance n
    t.timer.div = s.timer.div + BitVec.ofNat 8 ((s.timer.divSub + n) / s.cfg.params.divPeriod) ∧
    t.timer.divSub = (s.timer.divSub + n) % s.cfg.params.divPeriod ∧
    (s.timer.tac.getLsbD 2 = false → s.timer.reloadPending = 0 →
      t.ifReg = s.ifReg ∧ t.timer.tima = s.timer.tima ∧ t.timer.timaSub = s.timer.timaSub)

/-- R370, which the spec derives from R360 to R364: from an overflow on, with the enable set, TIMA reads 0 for 4
cycles, is reloaded from TMA once, requesting the interrupt once, counts every period, and overflows again exactly
(256 - TMA) * TIMA_PERIOD cycles later, for all four rates. -/
def Obligations.TimerOverflowLaw : Prop :=
  ∀ s : State, s.timer.tac.getLsbD 2 = true → s.timer.tima = 0 → s.timer.timaSub = 0 →
    s.timer.reloadPending = 4 → s.cfg.params.timaReloadDelay = 4 →
    let period := [1024, 16, 64, 256].getD (s.timer.tac.toNat % 4) 0
    let m := s.timer.tma.toNat
    let total := (256 - m) * period
    (∀ j, j < total → (s.timerAdvance j).timer.reloadPending = 4 - j ∧
      (s.timerAdvance j).timer.tima = if j < 4 then 0 else BitVec.ofNat 8 (m + j / period)) ∧
    (s.timerAdvance total).timer.tima = 0 ∧ (s.timerAdvance total).timer.timaSub = 0 ∧
    (s.timerAdvance total).timer.reloadPending = 4 ∧ (s.timerAdvance total).timer.tma = s.timer.tma ∧
    (∀ j, j ≤ total → (s.timerAdvance j).ifReg = if j < 4 then s.ifReg else s.ifReg ||| 0b00100) ∧
    (∀ j, j < total → ((s.timerAdvance j).timer.reloadsNow = true ↔ j = 3))

/-- R384, which the spec derives from R380: with the LCD on and the default XFER_CYCLES, n cycles move the PPU n
dots on in a frame of 70224, and its mode is the one of its place in the line: 80, 172 and 204 dots of modes 2, 3,
0, and ten lines of mode 1. -/
def Obligations.PpuPositionLaw : Prop :=
  ∀ (s : State) (n : Nat), s.ppu.lcdOn = true → s.ppu.ly.toNat < 154 → s.ppu.dot < 456 →
    s.cfg.params.xferCycles = 172 → s.ppu.mode = modeAt s.cfg.params s.ppu.ly s.ppu.dot →
    let t := s.ppuAdvance n
    let place := (s.ppu.ly.toNat * 456 + s.ppu.dot + n) % 70224
    t.ppu.ly.toNat = place / 456 ∧ t.ppu.dot = place % 456 ∧
    t.ppu.mode = if 144 ≤ place / 456 then .vblank else if place % 456 < 80 then .oamScan
      else if place % 456 < 252 then .transfer else .hblank

/-- R383, R385, R386: the cycle that enters line 144 requests VBlank, publishes the live buffer and raises the
event; a cycle requests STAT exactly when the OR of the selected conditions rises. -/
def Obligations.VBlankAndStatRequests : Prop :=
  ∀ s : State, s.ppu.lcdOn = true →
    let t := s.ppuTick
    (s.ppu.ly = 143 → s.ppu.dot = 455 → s.ppu.mode ≠ .vblank →
      t.ppu.ly = 144 ∧ t.ppu.dot = 0 ∧ t.ppu.mode = .vblank ∧ t.ifReg.getLsbD 0 = true ∧
      t.ppu.fbFrame = s.ppu.fbLive ∧ t.ppu.fbLive = s.ppu.fbLive ∧ t.ppu.vblankEvent = true) ∧
    (t.ppu.statLine = true ↔
      (t.ppu.statSel.getLsbD 3 = true ∧ t.ppu.ly = t.ppu.lyc) ∨
      (t.ppu.statSel.getLsbD 0 = true ∧ t.ppu.mode = .hblank) ∨
      (t.ppu.statSel.getLsbD 1 = true ∧ t.ppu.mode = .vblank) ∨
      (t.ppu.statSel.getLsbD 2 = true ∧ t.ppu.mode = .oamScan)) ∧
    (t.ifReg.getLsbD 1 = true ↔ s.ifReg.getLsbD 1 = true ∨ (s.ppu.statLine = false ∧ t.ppu.statLine = true)) ∧
    (∀ j : Nat, 2 ≤ j → t.ifReg.getLsbD j = s.ifReg.getLsbD j)

/-- R381, R382, R387: switching the LCD off and on, a cycle with the LCD off, and the STAT line after a write to
STAT or LYC. -/
def Obligations.LcdSwitchAndStatWrites : Prop :=
  ∀ (s : State) (v : Byte),
    let t := s.memWrite 0xFF40 v
    (s.ppu.lcdOn = false → s.ppuTick = s) ∧
    (s.ppu.lcdOn = true → v.getLsbD 7 = false →
      t = { s with ppu := { s.ppu with lcdc := v, ly := 0, dot := 0, mode := .hblank, statLine := false } }) ∧
    (s.ppu.lcdOn = false → v.getLsbD 7 = true →
      t.ppu = { s.ppu with lcdc := v, ly := 0, dot := 0, mode := .oamScan, winLine := 0,
                           statLine := t.ppu.statLevel } ∧
      t.ifReg = if t.ppu.statLevel && !s.ppu.statLine then s.ifReg ||| 0b00010 else s.ifReg) ∧
    (s.ppu.lcdOn = v.getLsbD 7 → t = { s with ppu := { s.ppu with lcdc := v } }) ∧
    (∀ a ∈ ([0xFF41, 0xFF45] : List Word),
      let u := s.memWrite a v
      (s.ppu.lcdOn = true → u.ppu.statLine = u.ppu.statLevel ∧
        u.ifReg = if u.ppu.statLevel && !s.ppu.statLine then s.ifReg ||| 0b00010 else s.ifReg) ∧
      (s.ppu.lcdOn = false → u.ppu.statLine = s.ppu.statLine ∧ u.ifReg = s.ifReg))

/-- R388 to R393: the cycle that starts pixel transfer on a visible line writes that row of the live buffer and no
other. Each of its pixels is the winning object's, unless that stands behind a background or window colour other
than 0, or else the window's or the background's, through the palette that R388 names; at most ten objects are
selected; the window's line counter rises exactly if the window was drawn. The terms are those of Safety.lean. -/
def Obligations.RenderWritesOneRow : Prop :=
  ∀ s : State, s.ppu.lcdOn = true → s.ppu.ly.toNat < 144 → s.ppu.dot = 79 → s.ppu.mode = .oamScan →
    1 ≤ s.cfg.params.xferCycles → s.ppu.fbLive.wfIn 0 23040 = true →
    let t := s.ppuTick
    let ly := s.ppu.ly.toNat
    t.ppu.mode = .transfer ∧ t.mem = s.mem ∧ t.ppu.fbFrame = s.ppu.fbFrame ∧
    (∀ y x : Nat, x < 160 → y ≠ ly → t.ppu.fbLive.read (y * 160 + x) = s.ppu.fbLive.read (y * 160 + x)) ∧
    (∀ x : Nat, x < 160 →
      let pixel := t.ppu.fbLive.read (ly * 160 + x)
      let back := s.backColour ly x
      ((s.ppu.lcdc.getLsbD 1 = false ∨ ∀ i, s.objShows ly x i = false) → pixel = shadeOf s.ppu.bgp back) ∧
      (∀ i, s.ppu.lcdc.getLsbD 1 = true → s.objWins ly x i → pixel =
        if (s.objByte i 3).getLsbD 7 = true ∧ back ≠ 0 then shadeOf s.ppu.bgp back
        else shadeOf (if (s.objByte i 3).getLsbD 4 then s.ppu.obp1 else s.ppu.obp0) (s.objColour ly x i))) ∧
    ((List.range 40).filter (s.objSelected ly)).length ≤ 10 ∧
    (∀ x, x < 160 → s.ppu.lcdc.getLsbD 0 = true → s.windowOver ly x = true → t.ppu.winLine = s.ppu.winLine + 1) ∧
    ((s.ppu.lcdc.getLsbD 0 = false ∨ ∀ x, x < 160 → s.windowOver ly x = false) → t.ppu.winLine = s.ppu.winLine)

/-! The whole machine -/

/-- R25, R28, R36, R37, R42, R43, R44: every step keeps the machine's invariant: clean flags, legal control
state, timer and PPU in range and in step, the joypad's lines, SC's stored bits, canonical memory within its
sizes, legal bank registers. The ranges of WIN_LINE and of the parameters are the model's reading (log 9, log 14). -/
def Obligations.EveryStepKeepsInvariant : Prop :=
  ∀ s t : State, s.Inv → step s = .next t → t.Inv

/-- The invariant holds at reset, and after construction and loading with any accepted Config whose parameters
make sense, the model's own check (log 3, log 14); and each host call that changes the state keeps it, from every
state that satisfies it (R430, R441, R442, R452, R453, R406), so that it holds between any two steps with calls
between them (R455). run_frame is steps and the clearing of the event. -/
def Obligations.InvariantHoldsAtReset : Prop :=
  State.reset.Inv ∧
  (∀ (c : Config) (s : State) (bytes : List Byte), c.params.wellFormed = true → construct c = .ok s →
    s.Inv ∧ (s.loadImage bytes).state.Inv) ∧
  (∀ s : State, s.Inv → s.resetCall.Inv ∧ s.clearVBlankEvent.Inv ∧
    (∀ k p, (s.setButtonState k p).Inv) ∧
    (∀ bytes, (s.importExternalRam bytes).state.Inv ∧ (s.loadImage bytes).state.Inv))

/-- R330, R402, R45, R395: every step answers a next state, reports a multiple of 4 cycles from 4 to 24, and
changes neither the Config, nor the buttons, nor the image. -/
def Obligations.EveryStepCompletes : Prop :=
  ∀ s : State, ∃ t, step s = .next t ∧ t.cycles % 4 = 0 ∧ 4 ≤ t.cycles ∧ t.cycles ≤ 24 ∧
    t.cfg = s.cfg ∧ t.joypad.buttons = s.joypad.buttons ∧
    (s.mem.cart = none → t.mem.cart = none) ∧
    (∀ k, s.mem.cart = some k → ∃ k', t.mem.cart = some k' ∧ k'.rom = k.rom ∧ k'.nrom = k.nrom ∧
      k'.ramSize = k.ramSize)

/-- R401, R396: the advance after the CPU phase changes the timer, the PPU and IF alone; it clears no request
and raises none of Serial or Joypad. -/
def Obligations.AdvanceChangesPeripheralsAlone : Prop :=
  ∀ s : State,
    let t := s.advance
    t = { s with timer := t.timer, ppu := t.ppu, ifReg := t.ifReg } ∧
    (∀ j : Nat, s.ifReg.getLsbD j = true → t.ifReg.getLsbD j = true) ∧
    t.ifReg.getLsbD 3 = s.ifReg.getLsbD 3 ∧ t.ifReg.getLsbD 4 = s.ifReg.getLsbD 4 ∧
    t.timer = (s.timerAdvance s.cycles).timer ∧
    t.ppu = ((s.timerAdvance s.cycles).ppuAdvance s.cycles).ppu

/-- R405, R406: `run_frame` ends after the first step that raises the VBlank event or brings its total to
70224 cycles, and leaves the event clear. The bound of the loop is the model's (log 12). -/
def Obligations.RunFrameStopsAtFrame : Prop :=
  ∀ s : State, ∃ (n : Nat) (t : State), 0 < n ∧
    steps n s.clearVBlankEvent = some t ∧ s.runFrame = .next t.clearVBlankEvent ∧
    (t.ppu.vblankEvent = true ∨ 70224 ≤ spent n s.clearVBlankEvent) ∧
    (∀ j u, 0 < j → j < n → steps j s.clearVBlankEvent = some u →
      u.ppu.vblankEvent = false ∧ spent j s.clearVBlankEvent < 70224)

/-- R451, R452: the export is the external RAM's cells in order, empty without a cartridge; an import of as many
bytes makes the external RAM those bytes, MBC2's by their low nibbles, and changes nothing else, so that an export
gives them back; importing what was exported changes nothing; an import of any other length is refused without a
change. -/
def Obligations.ExternalRamRoundTrip : Prop :=
  ∀ s : State,
    (s.mem.cart = none → s.exportExternalRam = []) ∧
    (∀ k, s.mem.cart = some k →
      let kept (b : Byte) : Byte := match k.mbc with
        | .mbc2 _ _ => b &&& 0x0F
        | _ => b
      s.exportExternalRam.length = k.ramSize ∧
      (∀ i, i < k.ramSize → s.exportExternalRam[i]? = some (k.xram.read i)) ∧
      (∀ bytes : List Byte, bytes.length = k.ramSize →
        let r := s.importExternalRam bytes
        r.result = .ok () ∧ r.state.exportExternalRam = bytes.map kept ∧
        ∃ k', r.state = { s with mem := { s.mem with cart := some k' } } ∧ k' = { k with xram := k'.xram } ∧
          ∀ i b, bytes[i]? = some b → k'.xram.read i = kept b)) ∧
    (s.mem.wf = true → (s.importExternalRam s.exportExternalRam).state = s) ∧
    (s.importExternalRam s.exportExternalRam).result = .ok () ∧
    (∀ bytes : List Byte, bytes.length ≠ s.exportExternalRam.length →
      (s.importExternalRam bytes).state = s ∧ (s.importExternalRam bytes).result = .error .imageFormat)
end

