-- ==== Sys2Proof/Laws/Cells.lean ====
section
/-! SUPPORT. Sparse arrays: read after write, and the canonical form. -/

namespace Sys2Proof

variable {w : Nat}

/-- A write leaves every other cell as it was. -/
theorem Cells.read_write_other (l : Cells w) {j k : Nat} (v : BitVec w) (h : j ≠ k) :
    Cells.read (Cells.write l k v) j = Cells.read l j := by
  induction l with
  | nil => simp only [Cells.write]; split <;> simp [Cells.read, Ne.symm h]
  | cons p rest ih =>
    obtain ⟨i, u⟩ := p
    simp only [Cells.write]
    split
    · split <;> simp [Cells.read, Ne.symm h]
    · split
      · subst i; split <;> simp [Cells.read, Ne.symm h]
      · simp [Cells.read, ih]

/-- A canonical array from `lo` on holds nothing below `lo`. -/
theorem Cells.read_below (l : Cells w) {lo hi k : Nat} (h : Cells.wfIn l lo hi = true) (hk : k < lo) :
    Cells.read l k = 0 := by
  induction l generalizing lo with
  | nil => rfl
  | cons p rest ih =>
    obtain ⟨i, u⟩ := p
    simp only [Cells.wfIn, Bool.and_eq_true, decide_eq_true_eq] at h
    obtain ⟨⟨⟨h1, -⟩, -⟩, h2⟩ := h
    simp only [Cells.read]
    rw [if_neg (by omega)]
    exact ih h2 (by omega)

/-- In a canonical array the cell written reads as the value written. -/
theorem Cells.read_write_same (l : Cells w) {lo hi : Nat} (k : Nat) (v : BitVec w)
    (h : Cells.wfIn l lo hi = true) : Cells.read (Cells.write l k v) k = v := by
  induction l generalizing lo with
  | nil =>
    simp only [Cells.write]
    split
    · subst v; rfl
    · simp [Cells.read]
  | cons p rest ih =>
    obtain ⟨i, u⟩ := p
    simp only [Cells.wfIn, Bool.and_eq_true, decide_eq_true_eq] at h
    obtain ⟨⟨⟨h1, -⟩, -⟩, h2⟩ := h
    simp only [Cells.write]
    split
    · split
      · subst v
        simp only [Cells.read]
        rw [if_neg (by omega)]
        exact Cells.read_below rest h2 (by omega)
      · simp [Cells.read]
    · split
      · split
        · subst v; subst i; exact Cells.read_below rest h2 (by omega)
        · simp [Cells.read]
      · simp only [Cells.read]
        rw [if_neg (by omega)]
        exact ih h2

/-- A canonical form from `lo` on is one from any lower index on. -/
theorem Cells.wfIn_mono {l : Cells w} {lo lo' hi : Nat} (h : Cells.wfIn l lo hi = true) (hl : lo' ≤ lo) :
    Cells.wfIn l lo' hi = true := by
  cases l with
  | nil => rfl
  | cons p rest =>
    obtain ⟨i, u⟩ := p
    simp only [Cells.wfIn, Bool.and_eq_true, decide_eq_true_eq] at h ⊢
    exact ⟨⟨⟨by omega, h.1.1.2⟩, h.1.2⟩, h.2⟩

/-- A write inside the bounds keeps the canonical form. -/
theorem Cells.wfIn_write {l : Cells w} {lo hi k : Nat} (v : BitVec w) (h : Cells.wfIn l lo hi = true)
    (h1 : lo ≤ k) (h2 : k < hi) : Cells.wfIn (Cells.write l k v) lo hi = true := by
  induction l generalizing lo with
  | nil =>
    simp only [Cells.write]
    split
    · rfl
    · simpa [Cells.wfIn, h1, h2] using ‹¬v = 0›
  | cons p rest ih =>
    obtain ⟨i, u⟩ := p
    have h' := h
    simp only [Cells.wfIn, Bool.and_eq_true, decide_eq_true_eq] at h'
    obtain ⟨⟨⟨g1, g2⟩, g3⟩, g4⟩ := h'
    simp only [Cells.write]
    split
    · split
      · exact h
      · simp only [Cells.wfIn, Bool.and_eq_true, decide_eq_true_eq]
        exact ⟨⟨⟨h1, h2⟩, by simpa using ‹¬v = 0›⟩, ⟨⟨by omega, g2⟩, g3⟩, g4⟩
    · split
      · subst i
        split
        · exact Cells.wfIn_mono g4 (by omega)
        · simp only [Cells.wfIn, Bool.and_eq_true, decide_eq_true_eq]
          exact ⟨⟨⟨h1, h2⟩, by simpa using ‹¬v = 0›⟩, g4⟩
      · simp only [Cells.wfIn, Bool.and_eq_true, decide_eq_true_eq]
        exact ⟨⟨⟨g1, g2⟩, g3⟩, ih g4 (by omega)⟩

/-- The cells of a dense list are canonical. -/
theorem Cells.wfIn_ofList (vs : List (BitVec w)) {a lo hi : Nat} (h1 : lo ≤ a) (h2 : a + vs.length ≤ hi) :
    Cells.wfIn (Cells.ofList a vs) lo hi = true := by
  induction vs generalizing a lo with
  | nil => rfl
  | cons v vs ih =>
    simp only [List.length_cons] at h2
    simp only [Cells.ofList]
    split
    · exact ih (by omega) (by omega)
    · simp only [Cells.wfIn, Bool.and_eq_true, decide_eq_true_eq]
      exact ⟨⟨⟨h1, by omega⟩, by simpa using ‹¬v = 0›⟩, ih (by omega) (by omega)⟩

/-- Values that a write puts into an array are the value written or values that were there. -/
theorem Cells.all_write {l : Cells w} {k : Nat} {v : BitVec w} {p : Nat × BitVec w → Bool}
    (h : List.all l p = true) (hv : p (k, v) = true) : List.all (Cells.write l k v) p = true := by
  induction l with
  | nil => simp only [Cells.write]; split <;> simp [hv]
  | cons q rest ih =>
    obtain ⟨i, u⟩ := q
    simp only [List.all_cons, Bool.and_eq_true] at h
    simp only [Cells.write]
    split
    · split <;> simp [h.1, h.2, hv]
    · split
      · split <;> simp [h.2, hv]
      · simp [h.1, ih h.2]

/-- A dense list from `a` on lists nothing below `a`. -/
theorem Cells.read_ofList_below (vs : List (BitVec w)) (a i : Nat) (h : i < a) :
    Cells.read (Cells.ofList a vs) i = 0 := by
  induction vs generalizing a with
  | nil => rfl
  | cons v vs ih =>
    simp only [Cells.ofList]; split
    · exact ih _ (by omega)
    · simp only [Cells.read]; rw [if_neg (by omega)]; exact ih _ (by omega)

/-- The cells of a dense list read as the list's values, 0 past its end. -/
theorem Cells.read_ofList (vs : List (BitVec w)) (a i : Nat) (h : a ≤ i) :
    Cells.read (Cells.ofList a vs) i = vs.getD (i - a) 0 := by
  induction vs generalizing a with
  | nil => rfl
  | cons v vs ih =>
    simp only [Cells.ofList]
    by_cases e : i = a
    · subst e; split
      · subst v; rw [Cells.read_ofList_below _ _ _ (by omega)]; simp
      · simp [Cells.read]
    · have e' : i - a = (i - (a + 1)) + 1 := by omega
      rw [e', List.getD_cons_succ]
      split
      · exact ih _ (by omega)
      · simp only [Cells.read]; rw [if_neg (by omega)]; exact ih _ (by omega)

/-- Values of a dense list that all satisfy a test make cells that all satisfy it. -/
theorem Cells.all_ofList {vs : List (BitVec w)} (p : BitVec w → Bool) (a : Nat)
    (h : List.all vs p = true) : List.all (Cells.ofList a vs) (fun c => p c.2) = true := by
  induction vs generalizing a with
  | nil => rfl
  | cons v vs ih =>
    simp only [List.all_cons, Bool.and_eq_true] at h
    simp only [Cells.ofList]; split
    · exact ih _ h.2
    · simp [h.1, ih _ h.2]

/-! Dense lists. -/

/-- The export of n cells has n values (70_reset_and_hazards R451). -/
theorem Cells.toList_length (l : Cells w) (a n : Nat) : (l.toList a n).length = n := by
  induction n generalizing a with
  | zero => rfl
  | succ n ih => simp [Cells.toList, ih]

/-- Each is its cell's. -/
theorem Cells.toList_getElem? (l : Cells w) (a n i : Nat) (h : i < n) : (l.toList a n)[i]? = some (l.read (a + i)) := by
  induction n generalizing a i with
  | zero => omega
  | succ n ih =>
    cases i with
    | zero => simp [Cells.toList]
    | succ i => simp [Cells.toList, ih (a + 1) i (by omega)]; congr 1; omega

/-- A dense list as cells and back. -/
theorem Cells.toList_ofList (vs : List (BitVec w)) : (Cells.ofList 0 vs).toList 0 vs.length = vs := by
  apply List.ext_getElem?
  intro i
  by_cases h : i < vs.length
  · rw [Cells.toList_getElem? _ _ _ _ h, Nat.zero_add, Cells.read_ofList _ _ _ (by omega)]
    simp [h]
  · rw [List.getElem?_eq_none (by rw [Cells.toList_length]; omega), List.getElem?_eq_none (by omega)]

/-- Canonical cells as a dense list and back. -/
theorem Cells.ofList_toList (l : Cells w) (a n : Nat) (h : l.wfIn a (a + n) = true) : Cells.ofList a (l.toList a n) = l := by
  induction n generalizing l a with
  | zero =>
    cases l with
    | nil => rfl
    | cons p r => obtain ⟨k, v⟩ := p; simp [Cells.wfIn] at h; omega
  | succ n ih =>
    simp only [Cells.toList, Cells.ofList]
    cases l with
    | nil => 
      simp only [Cells.read, if_true]
      have := ih ([] : Cells w) (a + 1) rfl
      exact this
    | cons p r =>
      obtain ⟨k, v⟩ := p
      simp only [Cells.wfIn, Bool.and_eq_true, decide_eq_true_eq, bne_iff_ne] at h
      obtain ⟨⟨⟨h1, h2⟩, h3⟩, h4⟩ := h
      by_cases e : a = k
      · subst e
        have hr : Cells.read ((a, v) :: r) a = v := by simp [Cells.read]
        rw [hr, if_neg h3]
        congr 1
        have : Cells.toList ((a, v) :: r) (a + 1) n = Cells.toList r (a + 1) n := by
          have g : ∀ b m, a < b → Cells.toList ((a, v) :: r) b m = Cells.toList r b m := by
            intro b m; induction m generalizing b with
            | zero => intro _; rfl
            | succ m ihm =>
              intro hb
              simp only [Cells.toList]
              rw [ihm (b + 1) (by omega)]
              congr 1
              simp only [Cells.read]; rw [if_neg (by omega)]
          exact g _ _ (by omega)
        rw [this]; exact ih r (a + 1) (by rw [show a + 1 + n = a + (n + 1) by omega]; exact h4)
      · have hr : Cells.read ((k, v) :: r) a = 0 := by
          simp only [Cells.read]; rw [if_neg (by omega)]
          exact Cells.read_below _ h4 (by omega)
        rw [hr, if_pos rfl]
        exact ih _ (a + 1) (by simp only [Cells.wfIn, Bool.and_eq_true, decide_eq_true_eq, bne_iff_ne]; rw [show a + 1 + n = a + (n + 1) by omega]; exact ⟨⟨⟨by omega, h2⟩, h3⟩, h4⟩)

/-- A cell of an array of nibbles is a nibble (20_memory R96). -/
theorem Cells.read_lt {l : Cells 8} (h : (List.all l fun c => decide (c.2.toNat < 16)) = true) (i : Nat) : (Cells.read l i).toNat < 16 := by
  induction l with
  | nil => exact Nat.zero_lt_succ 15
  | cons p r ih =>
    simp only [List.all_cons, Bool.and_eq_true, decide_eq_true_eq] at h
    simp only [Cells.read]; split
    · exact h.1
    · exact ih h.2

end Sys2Proof
end

