-- ==== Sys2Proof/Laws/Bits.lean ====
section
/-! SUPPORT. The byte-order and bit-field helpers. -/

namespace Sys2Proof

@[simp] theorem join_hi_lo (v : Word) : join (hiByte v) (loByte v) = v := by
  simp only [join, hiByte, loByte]
  exact BitVec.extractLsb'_append_extractLsb'_eq_extractLsb' (by omega) |>.trans (by simp)

/-- A bit of `hi ++ lo`. -/
theorem getLsbD_join (a b : Byte) (i : Nat) :
    (join a b).getLsbD i = if i < 8 then b.getLsbD i else a.getLsbD (i - 8) := by
  have h := BitVec.getLsbD_append (x := a) (y := b) (i := i)
  exact h.trans (by simp)

@[simp] theorem hiByte_join (a b : Byte) : hiByte (join a b) = a := by
  apply BitVec.eq_of_getLsbD_eq
  intro i hi
  rw [hiByte, BitVec.getLsbD_extractLsb', getLsbD_join]
  simp [hi]

@[simp] theorem loByte_join (a b : Byte) : loByte (join a b) = b := by
  apply BitVec.eq_of_getLsbD_eq
  intro i hi
  rw [loByte, BitVec.getLsbD_extractLsb', getLsbD_join]
  simp [hi]

end Sys2Proof
end

