-- ==== Sys2Proof/Laws/State.lean ====
section
/-! SUPPORT. State updates, field by field: what each update writes and that it leaves the other fields. -/

namespace Sys2Proof.Machine

variable (s : State)

@[simp] theorem State.setReg_regs (r : Reg8) (v : Byte) : (s.setReg r v).regs = s.regs.set r v := rfl
@[simp] theorem State.setReg_ime (r : Reg8) (v : Byte) : (s.setReg r v).ime = s.ime := rfl
@[simp] theorem State.setReg_eiDelay (r : Reg8) (v : Byte) : (s.setReg r v).eiDelay = s.eiDelay := rfl
@[simp] theorem State.setReg_run (r : Reg8) (v : Byte) : (s.setReg r v).run = s.run := rfl
@[simp] theorem State.setReg_haltBug (r : Reg8) (v : Byte) : (s.setReg r v).haltBug = s.haltBug := rfl
@[simp] theorem State.setReg_ifReg (r : Reg8) (v : Byte) : (s.setReg r v).ifReg = s.ifReg := rfl
@[simp] theorem State.setReg_ie (r : Reg8) (v : Byte) : (s.setReg r v).ie = s.ie := rfl
@[simp] theorem State.setReg_timer (r : Reg8) (v : Byte) : (s.setReg r v).timer = s.timer := rfl
@[simp] theorem State.setReg_ppu (r : Reg8) (v : Byte) : (s.setReg r v).ppu = s.ppu := rfl
@[simp] theorem State.setReg_joypad (r : Reg8) (v : Byte) : (s.setReg r v).joypad = s.joypad := rfl
@[simp] theorem State.setReg_sb (r : Reg8) (v : Byte) : (s.setReg r v).sb = s.sb := rfl
@[simp] theorem State.setReg_sc (r : Reg8) (v : Byte) : (s.setReg r v).sc = s.sc := rfl
@[simp] theorem State.setReg_bootMapped (r : Reg8) (v : Byte) : (s.setReg r v).bootMapped = s.bootMapped := rfl
@[simp] theorem State.setReg_mem (r : Reg8) (v : Byte) : (s.setReg r v).mem = s.mem := rfl
@[simp] theorem State.setReg_cfg (r : Reg8) (v : Byte) : (s.setReg r v).cfg = s.cfg := rfl
@[simp] theorem State.setReg_cycles (r : Reg8) (v : Byte) : (s.setReg r v).cycles = s.cycles := rfl

@[simp] theorem State.setPair_regs (p : Pair) (v : Word) : (s.setPair p v).regs = s.regs.setPair p v := rfl
@[simp] theorem State.setPair_ime (p : Pair) (v : Word) : (s.setPair p v).ime = s.ime := rfl
@[simp] theorem State.setPair_eiDelay (p : Pair) (v : Word) : (s.setPair p v).eiDelay = s.eiDelay := rfl
@[simp] theorem State.setPair_run (p : Pair) (v : Word) : (s.setPair p v).run = s.run := rfl
@[simp] theorem State.setPair_haltBug (p : Pair) (v : Word) : (s.setPair p v).haltBug = s.haltBug := rfl
@[simp] theorem State.setPair_ifReg (p : Pair) (v : Word) : (s.setPair p v).ifReg = s.ifReg := rfl
@[simp] theorem State.setPair_ie (p : Pair) (v : Word) : (s.setPair p v).ie = s.ie := rfl
@[simp] theorem State.setPair_timer (p : Pair) (v : Word) : (s.setPair p v).timer = s.timer := rfl
@[simp] theorem State.setPair_ppu (p : Pair) (v : Word) : (s.setPair p v).ppu = s.ppu := rfl
@[simp] theorem State.setPair_joypad (p : Pair) (v : Word) : (s.setPair p v).joypad = s.joypad := rfl
@[simp] theorem State.setPair_sb (p : Pair) (v : Word) : (s.setPair p v).sb = s.sb := rfl
@[simp] theorem State.setPair_sc (p : Pair) (v : Word) : (s.setPair p v).sc = s.sc := rfl
@[simp] theorem State.setPair_bootMapped (p : Pair) (v : Word) : (s.setPair p v).bootMapped = s.bootMapped := rfl
@[simp] theorem State.setPair_mem (p : Pair) (v : Word) : (s.setPair p v).mem = s.mem := rfl
@[simp] theorem State.setPair_cfg (p : Pair) (v : Word) : (s.setPair p v).cfg = s.cfg := rfl
@[simp] theorem State.setPair_cycles (p : Pair) (v : Word) : (s.setPair p v).cycles = s.cycles := rfl

@[simp] theorem State.setPc_regs (v : Word) : (s.setPc v).regs = { s.regs with pc := v } := rfl
@[simp] theorem State.setPc_ime (v : Word) : (s.setPc v).ime = s.ime := rfl
@[simp] theorem State.setPc_eiDelay (v : Word) : (s.setPc v).eiDelay = s.eiDelay := rfl
@[simp] theorem State.setPc_run (v : Word) : (s.setPc v).run = s.run := rfl
@[simp] theorem State.setPc_haltBug (v : Word) : (s.setPc v).haltBug = s.haltBug := rfl
@[simp] theorem State.setPc_ifReg (v : Word) : (s.setPc v).ifReg = s.ifReg := rfl
@[simp] theorem State.setPc_ie (v : Word) : (s.setPc v).ie = s.ie := rfl
@[simp] theorem State.setPc_timer (v : Word) : (s.setPc v).timer = s.timer := rfl
@[simp] theorem State.setPc_ppu (v : Word) : (s.setPc v).ppu = s.ppu := rfl
@[simp] theorem State.setPc_joypad (v : Word) : (s.setPc v).joypad = s.joypad := rfl
@[simp] theorem State.setPc_sb (v : Word) : (s.setPc v).sb = s.sb := rfl
@[simp] theorem State.setPc_sc (v : Word) : (s.setPc v).sc = s.sc := rfl
@[simp] theorem State.setPc_bootMapped (v : Word) : (s.setPc v).bootMapped = s.bootMapped := rfl
@[simp] theorem State.setPc_mem (v : Word) : (s.setPc v).mem = s.mem := rfl
@[simp] theorem State.setPc_cfg (v : Word) : (s.setPc v).cfg = s.cfg := rfl
@[simp] theorem State.setPc_cycles (v : Word) : (s.setPc v).cycles = s.cycles := rfl

@[simp] theorem State.setSp_regs (v : Word) : (s.setSp v).regs = { s.regs with sp := v } := rfl
@[simp] theorem State.setSp_ime (v : Word) : (s.setSp v).ime = s.ime := rfl
@[simp] theorem State.setSp_eiDelay (v : Word) : (s.setSp v).eiDelay = s.eiDelay := rfl
@[simp] theorem State.setSp_run (v : Word) : (s.setSp v).run = s.run := rfl
@[simp] theorem State.setSp_haltBug (v : Word) : (s.setSp v).haltBug = s.haltBug := rfl
@[simp] theorem State.setSp_ifReg (v : Word) : (s.setSp v).ifReg = s.ifReg := rfl
@[simp] theorem State.setSp_ie (v : Word) : (s.setSp v).ie = s.ie := rfl
@[simp] theorem State.setSp_timer (v : Word) : (s.setSp v).timer = s.timer := rfl
@[simp] theorem State.setSp_ppu (v : Word) : (s.setSp v).ppu = s.ppu := rfl
@[simp] theorem State.setSp_joypad (v : Word) : (s.setSp v).joypad = s.joypad := rfl
@[simp] theorem State.setSp_sb (v : Word) : (s.setSp v).sb = s.sb := rfl
@[simp] theorem State.setSp_sc (v : Word) : (s.setSp v).sc = s.sc := rfl
@[simp] theorem State.setSp_bootMapped (v : Word) : (s.setSp v).bootMapped = s.bootMapped := rfl
@[simp] theorem State.setSp_mem (v : Word) : (s.setSp v).mem = s.mem := rfl
@[simp] theorem State.setSp_cfg (v : Word) : (s.setSp v).cfg = s.cfg := rfl
@[simp] theorem State.setSp_cycles (v : Word) : (s.setSp v).cycles = s.cycles := rfl

@[simp] theorem State.setF_regs (v : Byte) : (s.setF v).regs = { s.regs with f := v &&& 0xF0 } := rfl
@[simp] theorem State.setF_ime (v : Byte) : (s.setF v).ime = s.ime := rfl
@[simp] theorem State.setF_eiDelay (v : Byte) : (s.setF v).eiDelay = s.eiDelay := rfl
@[simp] theorem State.setF_run (v : Byte) : (s.setF v).run = s.run := rfl
@[simp] theorem State.setF_haltBug (v : Byte) : (s.setF v).haltBug = s.haltBug := rfl
@[simp] theorem State.setF_ifReg (v : Byte) : (s.setF v).ifReg = s.ifReg := rfl
@[simp] theorem State.setF_ie (v : Byte) : (s.setF v).ie = s.ie := rfl
@[simp] theorem State.setF_timer (v : Byte) : (s.setF v).timer = s.timer := rfl
@[simp] theorem State.setF_ppu (v : Byte) : (s.setF v).ppu = s.ppu := rfl
@[simp] theorem State.setF_joypad (v : Byte) : (s.setF v).joypad = s.joypad := rfl
@[simp] theorem State.setF_sb (v : Byte) : (s.setF v).sb = s.sb := rfl
@[simp] theorem State.setF_sc (v : Byte) : (s.setF v).sc = s.sc := rfl
@[simp] theorem State.setF_bootMapped (v : Byte) : (s.setF v).bootMapped = s.bootMapped := rfl
@[simp] theorem State.setF_mem (v : Byte) : (s.setF v).mem = s.mem := rfl
@[simp] theorem State.setF_cfg (v : Byte) : (s.setF v).cfg = s.cfg := rfl
@[simp] theorem State.setF_cycles (v : Byte) : (s.setF v).cycles = s.cycles := rfl

@[simp] theorem State.setFlags_regs (z n h c : Bool) : (s.setFlags z n h c).regs = { s.regs with f := packFlags z n h c &&& 0xF0 } := rfl
@[simp] theorem State.setFlags_ime (z n h c : Bool) : (s.setFlags z n h c).ime = s.ime := rfl
@[simp] theorem State.setFlags_eiDelay (z n h c : Bool) : (s.setFlags z n h c).eiDelay = s.eiDelay := rfl
@[simp] theorem State.setFlags_run (z n h c : Bool) : (s.setFlags z n h c).run = s.run := rfl
@[simp] theorem State.setFlags_haltBug (z n h c : Bool) : (s.setFlags z n h c).haltBug = s.haltBug := rfl
@[simp] theorem State.setFlags_ifReg (z n h c : Bool) : (s.setFlags z n h c).ifReg = s.ifReg := rfl
@[simp] theorem State.setFlags_ie (z n h c : Bool) : (s.setFlags z n h c).ie = s.ie := rfl
@[simp] theorem State.setFlags_timer (z n h c : Bool) : (s.setFlags z n h c).timer = s.timer := rfl
@[simp] theorem State.setFlags_ppu (z n h c : Bool) : (s.setFlags z n h c).ppu = s.ppu := rfl
@[simp] theorem State.setFlags_joypad (z n h c : Bool) : (s.setFlags z n h c).joypad = s.joypad := rfl
@[simp] theorem State.setFlags_sb (z n h c : Bool) : (s.setFlags z n h c).sb = s.sb := rfl
@[simp] theorem State.setFlags_sc (z n h c : Bool) : (s.setFlags z n h c).sc = s.sc := rfl
@[simp] theorem State.setFlags_bootMapped (z n h c : Bool) : (s.setFlags z n h c).bootMapped = s.bootMapped := rfl
@[simp] theorem State.setFlags_mem (z n h c : Bool) : (s.setFlags z n h c).mem = s.mem := rfl
@[simp] theorem State.setFlags_cfg (z n h c : Bool) : (s.setFlags z n h c).cfg = s.cfg := rfl
@[simp] theorem State.setFlags_cycles (z n h c : Bool) : (s.setFlags z n h c).cycles = s.cycles := rfl

@[simp] theorem State.report_regs (n : Nat) : (s.report n).regs = s.regs := rfl
@[simp] theorem State.report_ime (n : Nat) : (s.report n).ime = s.ime := rfl
@[simp] theorem State.report_eiDelay (n : Nat) : (s.report n).eiDelay = s.eiDelay := rfl
@[simp] theorem State.report_run (n : Nat) : (s.report n).run = s.run := rfl
@[simp] theorem State.report_haltBug (n : Nat) : (s.report n).haltBug = s.haltBug := rfl
@[simp] theorem State.report_ifReg (n : Nat) : (s.report n).ifReg = s.ifReg := rfl
@[simp] theorem State.report_ie (n : Nat) : (s.report n).ie = s.ie := rfl
@[simp] theorem State.report_timer (n : Nat) : (s.report n).timer = s.timer := rfl
@[simp] theorem State.report_ppu (n : Nat) : (s.report n).ppu = s.ppu := rfl
@[simp] theorem State.report_joypad (n : Nat) : (s.report n).joypad = s.joypad := rfl
@[simp] theorem State.report_sb (n : Nat) : (s.report n).sb = s.sb := rfl
@[simp] theorem State.report_sc (n : Nat) : (s.report n).sc = s.sc := rfl
@[simp] theorem State.report_bootMapped (n : Nat) : (s.report n).bootMapped = s.bootMapped := rfl
@[simp] theorem State.report_mem (n : Nat) : (s.report n).mem = s.mem := rfl
@[simp] theorem State.report_cfg (n : Nat) : (s.report n).cfg = s.cfg := rfl
@[simp] theorem State.report_cycles (n : Nat) : (s.report n).cycles = n := rfl

@[simp] theorem State.request_regs (k : Irq) : (s.request k).regs = s.regs := rfl
@[simp] theorem State.request_ime (k : Irq) : (s.request k).ime = s.ime := rfl
@[simp] theorem State.request_eiDelay (k : Irq) : (s.request k).eiDelay = s.eiDelay := rfl
@[simp] theorem State.request_run (k : Irq) : (s.request k).run = s.run := rfl
@[simp] theorem State.request_haltBug (k : Irq) : (s.request k).haltBug = s.haltBug := rfl
@[simp] theorem State.request_ifReg (k : Irq) : (s.request k).ifReg = s.ifReg ||| (1#5 <<< k.bit) := rfl
@[simp] theorem State.request_ie (k : Irq) : (s.request k).ie = s.ie := rfl
@[simp] theorem State.request_timer (k : Irq) : (s.request k).timer = s.timer := rfl
@[simp] theorem State.request_ppu (k : Irq) : (s.request k).ppu = s.ppu := rfl
@[simp] theorem State.request_joypad (k : Irq) : (s.request k).joypad = s.joypad := rfl
@[simp] theorem State.request_sb (k : Irq) : (s.request k).sb = s.sb := rfl
@[simp] theorem State.request_sc (k : Irq) : (s.request k).sc = s.sc := rfl
@[simp] theorem State.request_bootMapped (k : Irq) : (s.request k).bootMapped = s.bootMapped := rfl
@[simp] theorem State.request_mem (k : Irq) : (s.request k).mem = s.mem := rfl
@[simp] theorem State.request_cfg (k : Irq) : (s.request k).cfg = s.cfg := rfl
@[simp] theorem State.request_cycles (k : Irq) : (s.request k).cycles = s.cycles := rfl

@[simp] theorem State.clearRequest_regs (k : Irq) : (s.clearRequest k).regs = s.regs := rfl
@[simp] theorem State.clearRequest_ime (k : Irq) : (s.clearRequest k).ime = s.ime := rfl
@[simp] theorem State.clearRequest_eiDelay (k : Irq) : (s.clearRequest k).eiDelay = s.eiDelay := rfl
@[simp] theorem State.clearRequest_run (k : Irq) : (s.clearRequest k).run = s.run := rfl
@[simp] theorem State.clearRequest_haltBug (k : Irq) : (s.clearRequest k).haltBug = s.haltBug := rfl
@[simp] theorem State.clearRequest_ifReg (k : Irq) : (s.clearRequest k).ifReg = s.ifReg &&& ~~~(1#5 <<< k.bit) := rfl
@[simp] theorem State.clearRequest_ie (k : Irq) : (s.clearRequest k).ie = s.ie := rfl
@[simp] theorem State.clearRequest_timer (k : Irq) : (s.clearRequest k).timer = s.timer := rfl
@[simp] theorem State.clearRequest_ppu (k : Irq) : (s.clearRequest k).ppu = s.ppu := rfl
@[simp] theorem State.clearRequest_joypad (k : Irq) : (s.clearRequest k).joypad = s.joypad := rfl
@[simp] theorem State.clearRequest_sb (k : Irq) : (s.clearRequest k).sb = s.sb := rfl
@[simp] theorem State.clearRequest_sc (k : Irq) : (s.clearRequest k).sc = s.sc := rfl
@[simp] theorem State.clearRequest_bootMapped (k : Irq) : (s.clearRequest k).bootMapped = s.bootMapped := rfl
@[simp] theorem State.clearRequest_mem (k : Irq) : (s.clearRequest k).mem = s.mem := rfl
@[simp] theorem State.clearRequest_cfg (k : Irq) : (s.clearRequest k).cfg = s.cfg := rfl
@[simp] theorem State.clearRequest_cycles (k : Irq) : (s.clearRequest k).cycles = s.cycles := rfl

@[simp] theorem State.setOam_regs (i : Nat) (v : Byte) : (s.setOam i v).regs = s.regs := rfl
@[simp] theorem State.setOam_ime (i : Nat) (v : Byte) : (s.setOam i v).ime = s.ime := rfl
@[simp] theorem State.setOam_eiDelay (i : Nat) (v : Byte) : (s.setOam i v).eiDelay = s.eiDelay := rfl
@[simp] theorem State.setOam_run (i : Nat) (v : Byte) : (s.setOam i v).run = s.run := rfl
@[simp] theorem State.setOam_haltBug (i : Nat) (v : Byte) : (s.setOam i v).haltBug = s.haltBug := rfl
@[simp] theorem State.setOam_ifReg (i : Nat) (v : Byte) : (s.setOam i v).ifReg = s.ifReg := rfl
@[simp] theorem State.setOam_ie (i : Nat) (v : Byte) : (s.setOam i v).ie = s.ie := rfl
@[simp] theorem State.setOam_timer (i : Nat) (v : Byte) : (s.setOam i v).timer = s.timer := rfl
@[simp] theorem State.setOam_ppu (i : Nat) (v : Byte) : (s.setOam i v).ppu = s.ppu := rfl
@[simp] theorem State.setOam_joypad (i : Nat) (v : Byte) : (s.setOam i v).joypad = s.joypad := rfl
@[simp] theorem State.setOam_sb (i : Nat) (v : Byte) : (s.setOam i v).sb = s.sb := rfl
@[simp] theorem State.setOam_sc (i : Nat) (v : Byte) : (s.setOam i v).sc = s.sc := rfl
@[simp] theorem State.setOam_bootMapped (i : Nat) (v : Byte) : (s.setOam i v).bootMapped = s.bootMapped := rfl
@[simp] theorem State.setOam_mem (i : Nat) (v : Byte) : (s.setOam i v).mem = { s.mem with oam := s.mem.oam.write i v } := rfl
@[simp] theorem State.setOam_cfg (i : Nat) (v : Byte) : (s.setOam i v).cfg = s.cfg := rfl
@[simp] theorem State.setOam_cycles (i : Nat) (v : Byte) : (s.setOam i v).cycles = s.cycles := rfl

@[simp] theorem State.mapCart_regs (f : Cart → Cart) : (s.mapCart f).regs = s.regs := rfl
@[simp] theorem State.mapCart_ime (f : Cart → Cart) : (s.mapCart f).ime = s.ime := rfl
@[simp] theorem State.mapCart_eiDelay (f : Cart → Cart) : (s.mapCart f).eiDelay = s.eiDelay := rfl
@[simp] theorem State.mapCart_run (f : Cart → Cart) : (s.mapCart f).run = s.run := rfl
@[simp] theorem State.mapCart_haltBug (f : Cart → Cart) : (s.mapCart f).haltBug = s.haltBug := rfl
@[simp] theorem State.mapCart_ifReg (f : Cart → Cart) : (s.mapCart f).ifReg = s.ifReg := rfl
@[simp] theorem State.mapCart_ie (f : Cart → Cart) : (s.mapCart f).ie = s.ie := rfl
@[simp] theorem State.mapCart_timer (f : Cart → Cart) : (s.mapCart f).timer = s.timer := rfl
@[simp] theorem State.mapCart_ppu (f : Cart → Cart) : (s.mapCart f).ppu = s.ppu := rfl
@[simp] theorem State.mapCart_joypad (f : Cart → Cart) : (s.mapCart f).joypad = s.joypad := rfl
@[simp] theorem State.mapCart_sb (f : Cart → Cart) : (s.mapCart f).sb = s.sb := rfl
@[simp] theorem State.mapCart_sc (f : Cart → Cart) : (s.mapCart f).sc = s.sc := rfl
@[simp] theorem State.mapCart_bootMapped (f : Cart → Cart) : (s.mapCart f).bootMapped = s.bootMapped := rfl
@[simp] theorem State.mapCart_mem (f : Cart → Cart) : (s.mapCart f).mem = { s.mem with cart := s.mem.cart.map f } := rfl
@[simp] theorem State.mapCart_cfg (f : Cart → Cart) : (s.mapCart f).cfg = s.cfg := rfl
@[simp] theorem State.mapCart_cycles (f : Cart → Cart) : (s.mapCart f).cycles = s.cycles := rfl

@[simp] theorem State.popSp_regs : s.popSp.regs = { s.regs with sp := s.regs.sp + 2 } := rfl
@[simp] theorem State.popSp_ime : s.popSp.ime = s.ime := rfl
@[simp] theorem State.popSp_eiDelay : s.popSp.eiDelay = s.eiDelay := rfl
@[simp] theorem State.popSp_run : s.popSp.run = s.run := rfl
@[simp] theorem State.popSp_haltBug : s.popSp.haltBug = s.haltBug := rfl
@[simp] theorem State.popSp_ifReg : s.popSp.ifReg = s.ifReg := rfl
@[simp] theorem State.popSp_ie : s.popSp.ie = s.ie := rfl
@[simp] theorem State.popSp_timer : s.popSp.timer = s.timer := rfl
@[simp] theorem State.popSp_ppu : s.popSp.ppu = s.ppu := rfl
@[simp] theorem State.popSp_joypad : s.popSp.joypad = s.joypad := rfl
@[simp] theorem State.popSp_sb : s.popSp.sb = s.sb := rfl
@[simp] theorem State.popSp_sc : s.popSp.sc = s.sc := rfl
@[simp] theorem State.popSp_bootMapped : s.popSp.bootMapped = s.bootMapped := rfl
@[simp] theorem State.popSp_mem : s.popSp.mem = s.mem := rfl
@[simp] theorem State.popSp_cfg : s.popSp.cfg = s.cfg := rfl
@[simp] theorem State.popSp_cycles : s.popSp.cycles = s.cycles := rfl

@[simp] theorem State.wake_regs : s.wake.regs = s.regs := rfl
@[simp] theorem State.wake_ime : s.wake.ime = s.ime := rfl
@[simp] theorem State.wake_eiDelay : s.wake.eiDelay = s.eiDelay := rfl
@[simp] theorem State.wake_run : s.wake.run = .running := rfl
@[simp] theorem State.wake_haltBug : s.wake.haltBug = s.haltBug := rfl
@[simp] theorem State.wake_ifReg : s.wake.ifReg = s.ifReg := rfl
@[simp] theorem State.wake_ie : s.wake.ie = s.ie := rfl
@[simp] theorem State.wake_timer : s.wake.timer = s.timer := rfl
@[simp] theorem State.wake_ppu : s.wake.ppu = s.ppu := rfl
@[simp] theorem State.wake_joypad : s.wake.joypad = s.joypad := rfl
@[simp] theorem State.wake_sb : s.wake.sb = s.sb := rfl
@[simp] theorem State.wake_sc : s.wake.sc = s.sc := rfl
@[simp] theorem State.wake_bootMapped : s.wake.bootMapped = s.bootMapped := rfl
@[simp] theorem State.wake_mem : s.wake.mem = s.mem := rfl
@[simp] theorem State.wake_cfg : s.wake.cfg = s.cfg := rfl
@[simp] theorem State.wake_cycles : s.wake.cycles = s.cycles := rfl

@[simp] theorem State.lockCpu_regs : s.lockCpu.regs = s.regs := rfl
@[simp] theorem State.lockCpu_ime : s.lockCpu.ime = s.ime := rfl
@[simp] theorem State.lockCpu_eiDelay : s.lockCpu.eiDelay = s.eiDelay := rfl
@[simp] theorem State.lockCpu_run : s.lockCpu.run = .locked := rfl
@[simp] theorem State.lockCpu_haltBug : s.lockCpu.haltBug = s.haltBug := rfl
@[simp] theorem State.lockCpu_ifReg : s.lockCpu.ifReg = s.ifReg := rfl
@[simp] theorem State.lockCpu_ie : s.lockCpu.ie = s.ie := rfl
@[simp] theorem State.lockCpu_timer : s.lockCpu.timer = s.timer := rfl
@[simp] theorem State.lockCpu_ppu : s.lockCpu.ppu = s.ppu := rfl
@[simp] theorem State.lockCpu_joypad : s.lockCpu.joypad = s.joypad := rfl
@[simp] theorem State.lockCpu_sb : s.lockCpu.sb = s.sb := rfl
@[simp] theorem State.lockCpu_sc : s.lockCpu.sc = s.sc := rfl
@[simp] theorem State.lockCpu_bootMapped : s.lockCpu.bootMapped = s.bootMapped := rfl
@[simp] theorem State.lockCpu_mem : s.lockCpu.mem = s.mem := rfl
@[simp] theorem State.lockCpu_cfg : s.lockCpu.cfg = s.cfg := rfl
@[simp] theorem State.lockCpu_cycles : s.lockCpu.cycles = idleCycles := rfl

/-- Registers, run state and report are not on the bus: a read does not see `setReg`. -/
@[simp] theorem State.memRead_setReg (r : Reg8) (v : Byte) (x : Word) : (s.setReg r v).memRead x = s.memRead x := rfl
/-- Registers, run state and report are not on the bus: a read does not see `setPair`. -/
@[simp] theorem State.memRead_setPair (p : Pair) (v : Word) (x : Word) : (s.setPair p v).memRead x = s.memRead x := rfl
/-- Registers, run state and report are not on the bus: a read does not see `setPc`. -/
@[simp] theorem State.memRead_setPc (v : Word) (x : Word) : (s.setPc v).memRead x = s.memRead x := rfl
/-- Registers, run state and report are not on the bus: a read does not see `setSp`. -/
@[simp] theorem State.memRead_setSp (v : Word) (x : Word) : (s.setSp v).memRead x = s.memRead x := rfl
/-- Registers, run state and report are not on the bus: a read does not see `setF`. -/
@[simp] theorem State.memRead_setF (v : Byte) (x : Word) : (s.setF v).memRead x = s.memRead x := rfl
/-- Registers, run state and report are not on the bus: a read does not see `setFlags`. -/
@[simp] theorem State.memRead_setFlags (z n h c : Bool) (x : Word) : (s.setFlags z n h c).memRead x = s.memRead x := rfl
/-- Registers, run state and report are not on the bus: a read does not see `report`. -/
@[simp] theorem State.memRead_report (n : Nat) (x : Word) : (s.report n).memRead x = s.memRead x := rfl
/-- Registers, run state and report are not on the bus: a read does not see `popSp`. -/
@[simp] theorem State.memRead_popSp (x : Word) : s.popSp.memRead x = s.memRead x := rfl
/-- Registers, run state and report are not on the bus: a read does not see `wake`. -/
@[simp] theorem State.memRead_wake (x : Word) : s.wake.memRead x = s.memRead x := rfl
/-- Registers, run state and report are not on the bus: a read does not see `lockCpu`. -/
@[simp] theorem State.memRead_lockCpu (x : Word) : s.lockCpu.memRead x = s.memRead x := rfl

/-- A register written reads as the value written. -/
@[simp] theorem Regs.get_set_same (r : Regs) (x : Reg8) (v : Byte) : (r.set x v).get x = v := by
  cases x <;> rfl

/-- Writing a register leaves every other one. -/
theorem Regs.get_set_other (r : Regs) {x y : Reg8} (v : Byte) (h : y ≠ x) : (r.set x v).get y = r.get y := by
  cases x <;> cases y <;> first | rfl | exact absurd rfl h

@[simp] theorem Regs.set_f (r : Regs) (x : Reg8) (v : Byte) : (r.set x v).f = r.f := by cases x <;> rfl
@[simp] theorem Regs.set_sp (r : Regs) (x : Reg8) (v : Byte) : (r.set x v).sp = r.sp := by cases x <;> rfl
@[simp] theorem Regs.set_pc (r : Regs) (x : Reg8) (v : Byte) : (r.set x v).pc = r.pc := by cases x <;> rfl
@[simp] theorem Regs.setPair_pc (r : Regs) (p : Pair) (v : Word) : (r.setPair p v).pc = r.pc := by
  cases p <;> rfl

/-- A pair written reads as the value written, but for the low nibble of F (10_state R21, R25). -/
theorem Regs.getPair_setPair (r : Regs) (p : Pair) (v : Word) (h : p ≠ .af) :
    (r.setPair p v).getPair p = v := by
  cases p <;> first | rfl | exact join_hi_lo v | exact absurd rfl h

/-- A step that answers a next state went through one. -/
theorem mapNext_eq_next {f : State → State} {r : Result} {t : State} (h : mapNext f r = .next t) :
    ∃ u, r = .next u ∧ t = f u := by
  cases r with
  | next u => exact ⟨u, rfl, by simpa [mapNext, eq_comm] using h⟩
  | fault x => cases h
  | refused x => cases h

@[simp] theorem mapNext_next (f : State → State) (u : State) : mapNext f (.next u) = .next (f u) := rfl

end Sys2Proof.Machine
end

