-- ==== Sys2Proof/Laws/Bus.lean ====
section
/-! SUPPORT. The bus: what a write can change (never the CPU), reads after writes, and the canonical form. -/

namespace Sys2Proof.Machine

variable (s : State)

/-- A state change that leaves the CPU's own fields and the Config alone. -/
structure KeepsCpu (s t : State) : Prop where
  regs : t.regs = s.regs
  ime : t.ime = s.ime
  eiDelay : t.eiDelay = s.eiDelay
  run : t.run = s.run
  haltBug : t.haltBug = s.haltBug
  cfg : t.cfg = s.cfg
  cycles : t.cycles = s.cycles

theorem KeepsCpu.refl (s : State) : KeepsCpu s s := ⟨rfl, rfl, rfl, rfl, rfl, rfl, rfl⟩

theorem KeepsCpu.trans {s t u : State} (h : KeepsCpu s t) (g : KeepsCpu t u) : KeepsCpu s u :=
  ⟨g.1.trans h.1, g.2.trans h.2, g.3.trans h.3, g.4.trans h.4, g.5.trans h.5, g.6.trans h.6, g.7.trans h.7⟩

theorem keepsCpu_joypadCheck : KeepsCpu s s.joypadCheck := by
  unfold State.joypadCheck; dsimp only; split <;> exact ⟨rfl, rfl, rfl, rfl, rfl, rfl, rfl⟩

theorem keepsCpu_updateStatLine : KeepsCpu s s.updateStatLine := by
  unfold State.updateStatLine; dsimp only; split <;> exact ⟨rfl, rfl, rfl, rfl, rfl, rfl, rfl⟩

theorem keepsCpu_restat : KeepsCpu s s.restat := by
  unfold State.restat; split
  · exact keepsCpu_updateStatLine s
  · exact KeepsCpu.refl s

theorem keepsCpu_writeLcdc (v : Byte) : KeepsCpu s (s.writeLcdc v) := by
  unfold State.writeLcdc; dsimp only; split
  · exact ⟨rfl, rfl, rfl, rfl, rfl, rfl, rfl⟩
  · refine KeepsCpu.trans ?_ (keepsCpu_updateStatLine _); exact ⟨rfl, rfl, rfl, rfl, rfl, rfl, rfl⟩
  · exact ⟨rfl, rfl, rfl, rfl, rfl, rfl, rfl⟩
  · exact ⟨rfl, rfl, rfl, rfl, rfl, rfl, rfl⟩

/-- The OAM copy changes OAM alone (20_memory R84). -/
theorem dmaCopy_eq (page : Byte) (i n : Nat) (s : State) :
    ∃ oam, s.dmaCopy page i n = { s with mem := { s.mem with oam := oam } } := by
  induction n generalizing s i with
  | zero => exact ⟨s.mem.oam, rfl⟩
  | succ n ih =>
    obtain ⟨oam, h⟩ := ih (i + 1) (s.setOam i (s.memRead (BitVec.ofNat 16 (page.toNat * 256 + i))))
    exact ⟨oam, h⟩

theorem keepsCpu_writeDma (v : Byte) : KeepsCpu s (s.writeDma v) := by
  obtain ⟨oam, h⟩ := dmaCopy_eq v 0 160 { s with ppu := { s.ppu with dma := v } }
  unfold State.writeDma; rw [h]; exact ⟨rfl, rfl, rfl, rfl, rfl, rfl, rfl⟩

theorem keepsCpu_ioWrite (r : IoReg) (v : Byte) : KeepsCpu s (s.ioWrite r v) := by
  cases r
  case p1 => refine KeepsCpu.trans ?_ (keepsCpu_joypadCheck _); exact ⟨rfl, rfl, rfl, rfl, rfl, rfl, rfl⟩
  case lcdc => exact keepsCpu_writeLcdc s v
  case stat => refine KeepsCpu.trans ?_ (keepsCpu_restat _); exact ⟨rfl, rfl, rfl, rfl, rfl, rfl, rfl⟩
  case lyc => refine KeepsCpu.trans ?_ (keepsCpu_restat _); exact ⟨rfl, rfl, rfl, rfl, rfl, rfl, rfl⟩
  case dma => exact keepsCpu_writeDma s v
  all_goals exact ⟨rfl, rfl, rfl, rfl, rfl, rfl, rfl⟩

/-- A bus write never changes the CPU's own fields or the Config (20_memory R78 lists its effects). -/
theorem keepsCpu_memWrite (a : Word) (v : Byte) : KeepsCpu s (s.memWrite a v) := by
  unfold State.memWrite
  split
  case h_7 => exact keepsCpu_ioWrite s _ v
  all_goals exact ⟨rfl, rfl, rfl, rfl, rfl, rfl, rfl⟩

@[simp] theorem State.memWrite_regs (a : Word) (v : Byte) : (s.memWrite a v).regs = s.regs :=
  (keepsCpu_memWrite s a v).regs
@[simp] theorem State.memWrite_ime (a : Word) (v : Byte) : (s.memWrite a v).ime = s.ime :=
  (keepsCpu_memWrite s a v).ime
@[simp] theorem State.memWrite_eiDelay (a : Word) (v : Byte) : (s.memWrite a v).eiDelay = s.eiDelay :=
  (keepsCpu_memWrite s a v).eiDelay
@[simp] theorem State.memWrite_run (a : Word) (v : Byte) : (s.memWrite a v).run = s.run :=
  (keepsCpu_memWrite s a v).run
@[simp] theorem State.memWrite_haltBug (a : Word) (v : Byte) : (s.memWrite a v).haltBug = s.haltBug :=
  (keepsCpu_memWrite s a v).haltBug
@[simp] theorem State.memWrite_cfg (a : Word) (v : Byte) : (s.memWrite a v).cfg = s.cfg :=
  (keepsCpu_memWrite s a v).cfg
@[simp] theorem State.memWrite_cycles (a : Word) (v : Byte) : (s.memWrite a v).cycles = s.cycles :=
  (keepsCpu_memWrite s a v).cycles

/-- What a write to a plain cell leaves and what it reads as afterwards. -/
theorem memRead_write_vram (h : s.mem.wf = true) (a : Word) (off : Nat) (v : Byte)
    (hr : regionOf a = .vram off) : (s.memWrite a v).memRead a = v := by
  simp only [Memory.wf, Bool.and_eq_true] at h
  simp only [State.memRead, State.memWrite, hr]
  exact Cells.read_write_same _ _ _ h.1.1.1.1.2

theorem memRead_write_wram (h : s.mem.wf = true) (a : Word) (off : Nat) (v : Byte)
    (hr : regionOf a = .wram off) : (s.memWrite a v).memRead a = v := by
  simp only [Memory.wf, Bool.and_eq_true] at h
  simp only [State.memRead, State.memWrite, hr]
  exact Cells.read_write_same _ _ _ h.1.1.1.2

theorem memRead_write_oam (h : s.mem.wf = true) (a : Word) (off : Nat) (v : Byte)
    (hr : regionOf a = .oam off) : (s.memWrite a v).memRead a = v := by
  simp only [Memory.wf, Bool.and_eq_true] at h
  simp only [State.memRead, State.memWrite, hr]
  exact Cells.read_write_same _ _ _ h.1.1.2

theorem memRead_write_hram (h : s.mem.wf = true) (a : Word) (off : Nat) (v : Byte)
    (hr : regionOf a = .hram off) : (s.memWrite a v).memRead a = v := by
  simp only [Memory.wf, Bool.and_eq_true] at h
  simp only [State.memRead, State.memWrite, hr]
  exact Cells.read_write_same _ _ _ h.1.2

/-! A bus write neither reads nor changes the register file: it commutes with any change of it. -/

theorem dmaCopy_withRegs (r : Regs) (p : Byte) (n : Nat) (i : Nat) (s : State) :
    ({ s with regs := r } : State).dmaCopy p i n = { s.dmaCopy p i n with regs := r } := by
  induction n generalizing i s with
  | zero => rfl
  | succ n ih => exact ih (i + 1) (s.setOam i _)

theorem joypadCheck_withRegs (r : Regs) :
    ({ s with regs := r } : State).joypadCheck = { s.joypadCheck with regs := r } := by
  unfold State.joypadCheck; dsimp only; split <;> rfl

theorem updateStatLine_withRegs (r : Regs) :
    ({ s with regs := r } : State).updateStatLine = { s.updateStatLine with regs := r } := by
  unfold State.updateStatLine; dsimp only; split <;> rfl

theorem restat_withRegs (r : Regs) : ({ s with regs := r } : State).restat = { s.restat with regs := r } := by
  unfold State.restat; dsimp only; split
  · exact updateStatLine_withRegs s r
  · rfl

theorem writeLcdc_withRegs (r : Regs) (v : Byte) :
    ({ s with regs := r } : State).writeLcdc v = { s.writeLcdc v with regs := r } := by
  unfold State.writeLcdc; dsimp only
  generalize s.ppu.lcdOn = x; generalize bitOf v 7 = y
  cases x <;> cases y
  · rfl
  · exact updateStatLine_withRegs { s with ppu :=
      { ({ s.ppu with lcdc := v } : Ppu) with ly := 0, dot := 0, mode := .oamScan, winLine := 0 } } r
  · rfl
  · rfl

theorem ioWrite_withRegs (r : Regs) (q : IoReg) (v : Byte) :
    ({ s with regs := r } : State).ioWrite q v = { s.ioWrite q v with regs := r } := by
  cases q
  case p1 => exact joypadCheck_withRegs { s with joypad := { s.joypad with p1Sel := v.extractLsb' 4 2 } } r
  case lcdc => exact writeLcdc_withRegs s r v
  case stat => exact restat_withRegs { s with ppu := { s.ppu with statSel := v.extractLsb' 3 4 } } r
  case lyc => exact restat_withRegs { s with ppu := { s.ppu with lyc := v } } r
  case dma => exact dmaCopy_withRegs r v 160 0 { s with ppu := { s.ppu with dma := v } }
  all_goals rfl

/-- A bus write commutes with a change of the register file. -/
theorem memWrite_withRegs (r : Regs) (a : Word) (v : Byte) :
    ({ s with regs := r } : State).memWrite a v = { s.memWrite a v with regs := r } := by
  unfold State.memWrite
  cases regionOf a
  case io off => exact ioWrite_withRegs s r _ v
  all_goals rfl

/-! The joypad. -/

/-- The joypad check holds the lines, and adds the request exactly where a line fell (60_exceptions R394). -/
theorem joypadCheck_eq (s : State) : s.joypadCheck = { s with
    joypad := { s.joypad with p1LowPrev := s.joypad.low }
    ifReg := if s.joypad.p1LowPrev &&& ~~~s.joypad.low = 0 then s.ifReg else s.ifReg ||| 0b10000 } := by
  unfold State.joypadCheck; dsimp only; split <;> rfl

end Sys2Proof.Machine
end

