-- ==== Sys2Proof/Laws/Advance.lean ====
section
/-! SUPPORT. What the peripherals' advance can change: the timer, the PPU and the interrupt requests. -/

namespace Sys2Proof.Machine

variable (s : State)

theorem timerTick_eq : s.timerTick = { s with timer := s.timer.tick s.cfg.params, ifReg := s.timerTick.ifReg } := by
  unfold State.timerTick; dsimp only; split <;> rfl

/-- The timer unit changes its own registers and IF alone (60_exceptions R360). -/
theorem timerAdvance_eq (n : Nat) (s : State) :
    s.timerAdvance n = { s with timer := (s.timerAdvance n).timer, ifReg := (s.timerAdvance n).ifReg } := by
  induction n generalizing s with
  | zero => rfl
  | succ n ih =>
    have h := ih s.timerTick
    rw [timerTick_eq s] at h
    simp only [State.timerAdvance]
    rw [timerTick_eq s]
    exact h

theorem updateStatLine_eq : s.updateStatLine = { s with ppu := s.updateStatLine.ppu, ifReg := s.updateStatLine.ifReg } := by
  unfold State.updateStatLine; dsimp only; split <;> rfl

theorem updateMode_eq : s.updateMode = { s with ppu := s.updateMode.ppu, ifReg := s.updateMode.ifReg } := by
  unfold State.updateMode; dsimp only; split
  · rfl
  · unfold State.enterMode; dsimp only; split <;> rfl

theorem ppuTick_eq : s.ppuTick = { s with ppu := s.ppuTick.ppu, ifReg := s.ppuTick.ifReg } := by
  unfold State.ppuTick; split
  · rw [updateStatLine_eq, updateMode_eq]
  · rfl

/-- The PPU changes its own registers, its frame buffers and IF alone (60_exceptions R380). -/
theorem ppuAdvance_eq (n : Nat) (s : State) :
    s.ppuAdvance n = { s with ppu := (s.ppuAdvance n).ppu, ifReg := (s.ppuAdvance n).ifReg } := by
  induction n generalizing s with
  | zero => rfl
  | succ n ih =>
    have h := ih s.ppuTick
    rw [ppuTick_eq s] at h
    simp only [State.ppuAdvance]
    rw [ppuTick_eq s]
    exact h

/-- The advance of a step changes the timer, the PPU and IF alone (60_exceptions R401). -/
theorem advance_eq : s.advance = { s with timer := s.advance.timer, ppu := s.advance.ppu, ifReg := s.advance.ifReg } := by
  unfold State.advance
  rw [ppuAdvance_eq, timerAdvance_eq]

@[simp] theorem State.advance_regs : s.advance.regs = s.regs := by rw [advance_eq]
@[simp] theorem State.advance_ime : s.advance.ime = s.ime := by rw [advance_eq]
@[simp] theorem State.advance_eiDelay : s.advance.eiDelay = s.eiDelay := by rw [advance_eq]
@[simp] theorem State.advance_run : s.advance.run = s.run := by rw [advance_eq]
@[simp] theorem State.advance_haltBug : s.advance.haltBug = s.haltBug := by rw [advance_eq]
@[simp] theorem State.advance_ie : s.advance.ie = s.ie := by rw [advance_eq]
@[simp] theorem State.advance_joypad : s.advance.joypad = s.joypad := by rw [advance_eq]
@[simp] theorem State.advance_sb : s.advance.sb = s.sb := by rw [advance_eq]
@[simp] theorem State.advance_sc : s.advance.sc = s.sc := by rw [advance_eq]
@[simp] theorem State.advance_bootMapped : s.advance.bootMapped = s.bootMapped := by rw [advance_eq]
@[simp] theorem State.advance_mem : s.advance.mem = s.mem := by rw [advance_eq]
@[simp] theorem State.advance_cfg : s.advance.cfg = s.cfg := by rw [advance_eq]
@[simp] theorem State.advance_cycles : s.advance.cycles = s.cycles := by rw [advance_eq]

/-- What every timer cycle and every PPU cycle keeps, the advance keeps. -/
theorem advance_keeps {P : State → Prop} (ht : ∀ t, P t → P t.timerTick) (hp : ∀ t, P t → P t.ppuTick)
    (h : P s) : P s.advance := by
  have h1 : ∀ n (t : State), P t → P (t.timerAdvance n) := by
    intro n; induction n with
    | zero => exact fun _ h => h
    | succ n ih => exact fun t h => ih _ (ht t h)
  have h2 : ∀ n (t : State), P t → P (t.ppuAdvance n) := by
    intro n; induction n with
    | zero => exact fun _ h => h
    | succ n ih => exact fun t h => ih _ (hp t h)
  exact h2 _ _ (h1 _ _ h)

end Sys2Proof.Machine
end

