-- ==== Sys2Proof/Laws/Memory.lean ====
section
/-! SUPPORT. Every memory operation keeps the canonical form of the arrays, and the reset memory has it. -/

namespace Sys2Proof.Machine

variable (s : State)

/-- The parts of a canonical memory. -/
theorem Memory.wf_iff (m : Memory) : m.wf = true ↔
    (∀ k, m.cart = some k → k.wf = true) ∧ m.vram.wfIn 0 8192 = true ∧ m.wram.wfIn 0 8192 = true ∧
      m.oam.wfIn 0 160 = true ∧ m.hram.wfIn 0 127 = true ∧ m.apu.wfIn 0 48 = true := by
  unfold Memory.wf
  cases m.cart <;> simp [and_assoc]

/-- The parts of a canonical cartridge. -/
theorem Cart.wf_iff (k : Cart) : k.wf = true ↔
    k.rom.wfIn 0 (k.nrom * 0x4000) = true ∧ k.xram.wfIn 0 k.ramSize = true ∧
      (∀ en rb, k.mbc = .mbc2 en rb →
        k.ramSize = 512 ∧ (k.xram.all fun c => decide (c.2.toNat < 16)) = true) := by
  unfold Cart.wf
  cases k.mbc <;> simp [and_assoc]

/-! The offsets that `regionOf` answers lie within the arrays (20_memory R64). -/

theorem regionOf_vram_lt {a : Word} {o : Nat} (h : regionOf a = .vram o) : o < 8192 := by
  unfold regionOf at h; dsimp only at h
  split_ifs at h; injection h with h; omega

theorem regionOf_wram_lt {a : Word} {o : Nat} (h : regionOf a = .wram o) : o < 8192 := by
  unfold regionOf at h; dsimp only at h
  split_ifs at h <;> (injection h with h; omega)

theorem regionOf_oam_lt {a : Word} {o : Nat} (h : regionOf a = .oam o) : o < 160 := by
  unfold regionOf at h; dsimp only at h
  split_ifs at h; injection h with h; omega

theorem regionOf_hram_lt {a : Word} {o : Nat} (h : regionOf a = .hram o) : o < 127 := by
  unfold regionOf at h; dsimp only at h
  split_ifs at h; injection h with h; omega

/-- An offset that an APU register has lies within its array (20_memory R86). -/
theorem ioRegAt_apu {n o : Nat} (h : ioRegAt n = .apu o) : o < 48 := by
  unfold ioRegAt at h
  split at h
  · cases h; omega
  · split at h <;> cases h

/-- A bank register write never changes the kind of controller (20_memory R68). -/
theorem Mbc.write_mbc2 {m : Mbc} {a : Word} {v : Byte} {en : Bool} {rb : BitVec 4}
    (h : m.write a v = .mbc2 en rb) : ∃ en' rb', m = .mbc2 en' rb' := by
  cases m
  case mbc2 en' rb' => exact ⟨en', rb', rfl⟩
  all_goals
    exfalso; simp only [Mbc.write] at h
    repeat' split at h
    all_goals cases h

theorem Cart.wf_writeRom {k : Cart} (h : k.wf = true) (a : Word) (v : Byte) : (k.writeRom a v).wf = true := by
  rw [Cart.wf_iff] at h ⊢
  refine ⟨h.1, h.2.1, fun en rb e => ?_⟩
  obtain ⟨en', rb', e'⟩ := Mbc.write_mbc2 (m := k.mbc) e
  exact h.2.2 en' rb' e'

/-- An external RAM index lies within the RAM (20_memory R94 to R98). -/
theorem Cart.ramIndex_lt {k : Cart} (h : k.wf = true) {a : Word} {i : Nat} (hi : k.ramIndex a = some i) :
    i < k.ramSize := by
  rw [Cart.wf_iff] at h
  unfold Cart.ramIndex at hi
  split at hi
  · cases hi
  · rename_i hz
    split at hi
    · rename_i en rb e
      have := (h.2.2 en rb e).1
      split at hi
      · cases hi; omega
      · cases hi
    · obtain ⟨b, -, rfl⟩ := Option.map_eq_some_iff.1 hi
      exact Nat.mod_lt _ (by omega)

/-- A masked byte is below 16. -/
theorem and_0F_lt (v : Byte) : (v &&& 0x0F).toNat < 16 := by
  have := Nat.and_le_right (n := v.toNat) (m := 15)
  rw [BitVec.toNat_and]; exact Nat.lt_succ_of_le this

theorem Cart.wf_writeRam {k : Cart} (h : k.wf = true) (a : Word) (v : Byte) : (k.writeRam a v).wf = true := by
  unfold Cart.writeRam
  cases hi : k.ramIndex a with
  | none => exact h
  | some i =>
    have hlt := Cart.ramIndex_lt h hi
    rw [Cart.wf_iff] at h ⊢
    refine ⟨h.1, Cells.wfIn_write _ h.2.1 (by omega) hlt, fun en rb e => ?_⟩
    have hm : k.mbc = .mbc2 en rb := e
    obtain ⟨h1, h2⟩ := h.2.2 en rb hm
    refine ⟨h1, Cells.all_write h2 ?_⟩
    rw [hm]; simpa [Cart.ramStoreValue] using and_0F_lt v

/-- A change of the cartridge that keeps its form keeps the memory's. -/
theorem wf_mapCart (f : Cart → Cart) (hf : ∀ k, k.wf = true → (f k).wf = true) (h : s.mem.wf = true) :
    (s.mapCart f).mem.wf = true := by
  rw [Memory.wf_iff] at h ⊢
  refine ⟨fun k hk => ?_, h.2⟩
  obtain ⟨k0, h0, rfl⟩ := Option.map_eq_some_iff.1 hk
  exact hf k0 (h.1 k0 h0)

theorem wf_setOam (i : Nat) (v : Byte) (hi : i < 160) (h : s.mem.wf = true) : (s.setOam i v).mem.wf = true := by
  rw [Memory.wf_iff] at h ⊢
  exact ⟨h.1, h.2.1, h.2.2.1, Cells.wfIn_write _ h.2.2.2.1 (by omega) hi, h.2.2.2.2⟩

theorem wf_dmaCopy (p : Byte) (n i : Nat) (hn : i + n ≤ 160) (h : s.mem.wf = true) :
    (s.dmaCopy p i n).mem.wf = true := by
  induction n generalizing s i with
  | zero => exact h
  | succ n ih => exact ih _ (i + 1) (by omega) (wf_setOam s i _ (by omega) h)

theorem joypadCheck_mem : s.joypadCheck.mem = s.mem := by
  unfold State.joypadCheck; dsimp only; split <;> rfl

theorem updateStatLine_mem : s.updateStatLine.mem = s.mem := by
  unfold State.updateStatLine; dsimp only; split <;> rfl

theorem restat_mem : s.restat.mem = s.mem := by
  unfold State.restat; split
  · exact updateStatLine_mem s
  · rfl

theorem writeLcdc_mem (v : Byte) : (s.writeLcdc v).mem = s.mem := by
  unfold State.writeLcdc; dsimp only; split
  · rfl
  · exact updateStatLine_mem _
  · rfl
  · rfl

theorem wf_ioWrite (n : Nat) (v : Byte) (h : s.mem.wf = true) : (s.ioWrite (ioRegAt n) v).mem.wf = true := by
  cases hr : ioRegAt n
  case p1 =>
    have e := joypadCheck_mem { s with joypad := { s.joypad with p1Sel := v.extractLsb' 4 2 } }
    exact (congrArg Memory.wf e).trans h
  case lcdc => exact (congrArg Memory.wf (writeLcdc_mem s v)).trans h
  case stat =>
    have e := restat_mem { s with ppu := { s.ppu with statSel := v.extractLsb' 3 4 } }
    exact (congrArg Memory.wf e).trans h
  case lyc =>
    have e := restat_mem { s with ppu := { s.ppu with lyc := v } }
    exact (congrArg Memory.wf e).trans h
  case dma => exact wf_dmaCopy { s with ppu := { s.ppu with dma := v } } v 160 0 (by omega) h
  case apu o =>
    have hb := ioRegAt_apu hr
    rw [Memory.wf_iff] at h ⊢
    exact ⟨h.1, h.2.1, h.2.2.1, h.2.2.2.1, h.2.2.2.2.1, Cells.wfIn_write _ h.2.2.2.2.2 (by omega) hb⟩
  all_goals exact h

/-- A bus write keeps the memory's canonical form. -/
theorem wf_memWrite (a : Word) (v : Byte) (h : s.mem.wf = true) : (s.memWrite a v).mem.wf = true := by
  unfold State.memWrite
  cases hr : regionOf a
  case rom => exact wf_mapCart s _ (fun k hk => Cart.wf_writeRom hk a v) h
  case xram => exact wf_mapCart s _ (fun k hk => Cart.wf_writeRam hk a v) h
  case vram o =>
    rw [Memory.wf_iff] at h ⊢
    exact ⟨h.1, Cells.wfIn_write _ h.2.1 (by omega) (regionOf_vram_lt hr), h.2.2⟩
  case wram o =>
    rw [Memory.wf_iff] at h ⊢
    exact ⟨h.1, h.2.1, Cells.wfIn_write _ h.2.2.1 (by omega) (regionOf_wram_lt hr), h.2.2.2⟩
  case oam o => exact wf_setOam s o v (regionOf_oam_lt hr) h
  case hram o =>
    rw [Memory.wf_iff] at h ⊢
    exact ⟨h.1, h.2.1, h.2.2.1, h.2.2.2.1, Cells.wfIn_write _ h.2.2.2.2.1 (by omega) (regionOf_hram_lt hr), h.2.2.2.2.2⟩
  case io o => exact wf_ioWrite s o v h
  all_goals exact h

/-- A 16-bit bus write keeps it. -/
theorem wf_memWrite16 (a v : Word) (h : s.mem.wf = true) : (s.memWrite16 a v).mem.wf = true :=
  wf_memWrite _ _ _ (wf_memWrite _ _ _ h)

/-- The power-on state of a canonical cartridge is canonical. -/
theorem wf_powerOn (c : Config) (cart : Option Cart) (h : ∀ k, cart = some k → k.wf = true) :
    (State.powerOn c cart).mem.wf = true := by
  rw [Memory.wf_iff]
  refine ⟨fun k hk => ?_, rfl, rfl, rfl, rfl, rfl⟩
  obtain ⟨k0, h0, rfl⟩ := Option.map_eq_some_iff.1 hk
  have h1 := h k0 h0
  rw [Cart.wf_iff] at h1 ⊢
  refine ⟨h1.1, h1.2.1, fun en rb e => ?_⟩
  have : ∃ en' rb', k0.mbc = .mbc2 en' rb' := by
    change k0.mbc.powerOn = _ at e
    cases hm : k0.mbc <;> rw [hm] at e <;> simp [Mbc.powerOn] at e
    exact ⟨_, _, rfl⟩
  obtain ⟨en', rb', e'⟩ := this
  exact h1.2.2 en' rb' e'

/-- The reset memory is canonical. -/
theorem wf_reset : State.reset.mem.wf = true := wf_powerOn _ _ (fun _ h => by cases h)

/-- The `reset()` call keeps the canonical form. -/
theorem wf_resetCall (h : s.mem.wf = true) : s.resetCall.mem.wf = true :=
  wf_powerOn _ _ ((Memory.wf_iff _).1 h).1

/-- An accepted image makes a canonical cartridge. -/
theorem wf_cartOfImage {bytes : List Byte} {k : Cart} (h : cartOfImage bytes = some k) : k.wf = true := by
  unfold cartOfImage at h
  split at h
  · cases h
  · split at h
    · cases h
    · dsimp only at h
      split at h
      · cases h
      · split at h
        · cases h
        · rename_i hl
          split at h
          · cases h
          · injection h with h; subst h
            rw [Cart.wf_iff]
            refine ⟨Cells.wfIn_ofList _ (by omega) ?_, rfl, fun en rb e => ?_⟩
            · have hl' := Decidable.not_not.1 hl
              dsimp only
              rw [hl']
              generalize 2 ^ (bytes.getD 328 0).toNat = x
              omega
            · dsimp only at e; rw [e]; exact ⟨rfl, rfl⟩

/-- Loading an image keeps the canonical form. -/
theorem wf_loadImage (bytes : List Byte) (h : s.mem.wf = true) : (s.loadImage bytes).state.mem.wf = true := by
  unfold State.loadImage
  split
  · exact h
  · rename_i k hk
    exact wf_powerOn _ _ (fun _ e => by cases e; exact wf_cartOfImage hk)

/-- Importing external RAM keeps the canonical form (70_reset_and_hazards R452). -/
theorem wf_importExternalRam (bytes : List Byte) (h : s.mem.wf = true) :
    (s.importExternalRam bytes).state.mem.wf = true := by
  unfold State.importExternalRam
  split
  · exact h
  · rename_i k hk
    split
    · rename_i hl
      rw [Memory.wf_iff] at h ⊢
      refine ⟨fun k' e => ?_, h.2⟩
      obtain ⟨k0, h0, rfl⟩ := Option.map_eq_some_iff.1 e
      rw [hk] at h0; injection h0 with h0; subst h0
      have h1 := (Cart.wf_iff _).1 (h.1 k hk)
      rw [Cart.wf_iff]
      refine ⟨h1.1, Cells.wfIn_ofList _ (by omega) (by simp [hl]), fun en rb e => ?_⟩
      have e' : k.mbc = .mbc2 en rb := e
      refine ⟨(h1.2.2 en rb e').1, ?_⟩
      dsimp only
      refine Cells.all_ofList (fun v => decide (v.toNat < 16)) 0 ?_
      simp only [List.all_map, List.all_eq_true]
      intro x _
      simpa [e', Cart.ramStoreValue] using and_0F_lt x
    · exact h

/-- An image index lies within the image of a cartridge that has banks (20_memory R67). -/
theorem Cart.romIndex_lt {k : Cart} (h : 0 < k.nrom) (a : Word) : k.romIndex a < k.nrom * 0x4000 := by
  unfold Cart.romIndex; dsimp only
  have h1 := Nat.mod_lt (if a.toNat < 0x4000 then k.mbc.lowBank else k.mbc.highBank) h
  have h2 := Nat.mod_lt a.toNat (show 0 < 0x4000 by decide)
  generalize (if a.toNat < 0x4000 then k.mbc.lowBank else k.mbc.highBank) % k.nrom = x at h1 ⊢
  omega

/-- Placing a byte for the next fetch keeps the canonical form, and the image's banks. -/
theorem wf_place (a : Word) (v : Byte) (h : s.mem.wf = true) (hb : ∀ k, s.mem.cart = some k → 0 < k.nrom) :
    (s.place a v).mem.wf = true ∧ ∀ k, (s.place a v).mem.cart = some k → 0 < k.nrom := by
  have hk : s.someCart.wf = true ∧ 0 < s.someCart.nrom := by
    unfold State.someCart
    cases hc : s.mem.cart with
    | none => exact ⟨rfl, by decide⟩
    | some k => exact ⟨((Memory.wf_iff _).1 h).1 k hc, hb k hc⟩
  unfold State.place
  cases hr : regionOf a
  case rom =>
    refine ⟨?_, fun k e => by cases e; exact hk.2⟩
    rw [Memory.wf_iff] at h ⊢
    refine ⟨fun k e => ?_, h.2⟩
    cases e
    have h1 := (Cart.wf_iff _).1 hk.1
    rw [Cart.wf_iff]
    exact ⟨Cells.wfIn_write _ h1.1 (by omega) (Cart.romIndex_lt hk.2 a), h1.2⟩
  case vram o =>
    refine ⟨?_, hb⟩
    rw [Memory.wf_iff] at h ⊢
    exact ⟨h.1, Cells.wfIn_write _ h.2.1 (by omega) (regionOf_vram_lt hr), h.2.2⟩
  case wram o =>
    refine ⟨?_, hb⟩
    rw [Memory.wf_iff] at h ⊢
    exact ⟨h.1, h.2.1, Cells.wfIn_write _ h.2.2.1 (by omega) (regionOf_wram_lt hr), h.2.2.2⟩
  case oam o =>
    refine ⟨?_, hb⟩
    rw [Memory.wf_iff] at h ⊢
    exact ⟨h.1, h.2.1, h.2.2.1, Cells.wfIn_write _ h.2.2.2.1 (by omega) (regionOf_oam_lt hr), h.2.2.2.2⟩
  case hram o =>
    refine ⟨?_, hb⟩
    rw [Memory.wf_iff] at h ⊢
    exact ⟨h.1, h.2.1, h.2.2.1, h.2.2.2.1, Cells.wfIn_write _ h.2.2.2.2.1 (by omega) (regionOf_hram_lt hr),
      h.2.2.2.2.2⟩
  all_goals exact ⟨h, hb⟩

end Sys2Proof.Machine
end

