-- ==== Sys2Proof/Laws/Cartridge.lean ====
section
/-! SUPPORT. The cartridge's windows: what a read gives and what a write changes, once the index is known
(20_memory R66 to R70). -/

namespace Sys2Proof.Machine

/-! The two windows of the cartridge (20_memory R64). -/

theorem regionOf_rom {a : Word} (h : a.toNat < 0x8000) : regionOf a = .rom := by
  unfold regionOf; dsimp only; rw [if_pos h]

theorem regionOf_xram {a : Word} (h : 0xA000 ≤ a.toNat) (h2 : a.toNat < 0xC000) : regionOf a = .xram := by
  unfold regionOf; dsimp only; rw [if_neg (by omega), if_neg (by omega), if_pos (by omega)]

/-- Where the boot ROM does not lie over the image (20_memory R66). -/
theorem bootByte_bare (s : State) (a : Word)
    (h : s.bootMapped = false ∨ s.cfg.bootRom = none ∨ 0x100 ≤ a.toNat) :
    s.bootByte a = none := by
  unfold State.bootByte
  rcases h with h | h | h
  · rw [h]; rfl
  · rw [h]; split <;> rfl
  · rw [if_neg]; simp; omega

/-- A ROM read (20_memory R67). -/
theorem memRead_rom (s : State) (k : Cart) (a : Word) (hk : s.mem.cart = some k) (ha : a.toNat < 0x8000)
    (hb : s.bootMapped = false ∨ s.cfg.bootRom = none ∨ 0x100 ≤ a.toNat) :
    s.memRead a = k.readRom a := by
  unfold State.memRead; rw [regionOf_rom ha]; dsimp only
  unfold State.readRomRange; rw [bootByte_bare s a hb, hk]

/-- The external RAM window where the controller maps nothing (20_memory R70). -/
theorem xram_off (s : State) (k : Cart) (a : Word) (hk : s.mem.cart = some k)
    (h1 : 0xA000 ≤ a.toNat) (h2 : a.toNat < 0xC000) (hi : k.ramIndex a = none) :
    s.memRead a = 0xFF ∧ ∀ v, s.memWrite a v = s := by
  constructor
  · unfold State.memRead; rw [regionOf_xram h1 h2]; dsimp only
    unfold State.readRamRange; rw [hk]; dsimp only; unfold Cart.readRam; rw [hi]
  · intro v
    unfold State.memWrite; rw [regionOf_xram h1 h2]; dsimp only
    unfold State.mapCart; rw [hk]; dsimp only [Option.map]
    unfold Cart.writeRam; rw [hi]; dsimp only
    rw [← hk]

/-- The external RAM window where it maps cell `i`: what a read gives and the one cell a write changes (20_memory R70). -/
theorem xram_on (s : State) (k : Cart) (a : Word) (i : Nat) (hk : s.mem.cart = some k)
    (h1 : 0xA000 ≤ a.toNat) (h2 : a.toNat < 0xC000) (hi : k.ramIndex a = some i) :
    s.memRead a = Cart.ramReadValue k.mbc (k.xram.read i) ∧ (s.mem.wf = true → ∀ v,
      ∃ k', s.memWrite a v = { s with mem := { s.mem with cart := some k' } } ∧ k' = { k with xram := k'.xram } ∧
          ∀ j, k'.xram.read j = if j = i then Cart.ramStoreValue k.mbc v else k.xram.read j) := by
  constructor
  · unfold State.memRead; rw [regionOf_xram h1 h2]; dsimp only
    unfold State.readRamRange; rw [hk]; dsimp only; unfold Cart.readRam; rw [hi]
  · intro hw v
    have hc := ((Cart.wf_iff k).1 (((Memory.wf_iff _).1 hw).1 k hk)).2.1
    refine ⟨{ k with xram := k.xram.write i (Cart.ramStoreValue k.mbc v) }, ?_, rfl, ?_⟩
    · unfold State.memWrite; rw [regionOf_xram h1 h2]; dsimp only
      unfold State.mapCart; rw [hk]; dsimp only [Option.map]
      unfold Cart.writeRam; rw [hi]
    · intro j; dsimp only
      split
      · rename_i e; subst e; exact Cells.read_write_same _ _ _ hc
      · rename_i e; exact Cells.read_write_other _ _ e

end Sys2Proof.Machine
end

