-- ==== Sys2Proof/Laws/Exec.lean ====
section
/-! SUPPORT. Say once what an instruction can do: every meaning answers a next state, and but for HALT, STOP, DI, EI
and RETI it is a path of register changes, bus writes and the report. -/

namespace Sys2Proof.Machine

/-- A composition of register changes (which keep F's low nibble clear or F as it is), bus writes and
reports. -/
inductive Path (s : State) : State → Prop where
  | refl : Path s s
  | regs {t : State} (r : Regs) (h : Path s t) (hf : r.f = t.regs.f ∨ r.f &&& 0x0F = 0) :
      Path s { t with regs := r }
  | write {t : State} (a : Word) (v : Byte) (h : Path s t) : Path s (t.memWrite a v)
  | report {t : State} (n : Nat) (h : Path s t) : Path s (t.report n)

namespace Path

variable {s t : State}

theorem setReg (r : Reg8) (v : Byte) (h : Path s t) : Path s (t.setReg r v) :=
  .regs _ h (.inl (Regs.set_f _ _ _))

/-- A masked byte has a clear low nibble (10_state R25). -/
theorem mask_low (v : Byte) : v &&& 0xF0 &&& 0x0F = 0 := by
  apply BitVec.eq_of_getLsbD_eq; intro i hi
  have : i = 0 ∨ i = 1 ∨ i = 2 ∨ i = 3 ∨ i = 4 ∨ i = 5 ∨ i = 6 ∨ i = 7 := by omega
  rcases this with rfl | rfl | rfl | rfl | rfl | rfl | rfl | rfl <;> simp

theorem setPair (p : Pair) (v : Word) (h : Path s t) : Path s (t.setPair p v) := by
  cases p
  case af => exact .regs _ h (.inr (mask_low _))
  all_goals exact .regs _ h (.inl rfl)

theorem setPc (v : Word) (h : Path s t) : Path s (t.setPc v) := .regs _ h (.inl rfl)
theorem setSp (v : Word) (h : Path s t) : Path s (t.setSp v) := .regs _ h (.inl rfl)
theorem popSp (h : Path s t) : Path s t.popSp := .regs _ h (.inl rfl)
theorem setFlags (z n k c : Bool) (h : Path s t) : Path s (t.setFlags z n k c) :=
  .regs _ h (.inr (mask_low _))
theorem storeTo (m : MemOperand) (v : Byte) (h : Path s t) : Path s (t.storeTo m v) := .write _ v h
theorem bumpHl (d : Word) (h : Path s t) : Path s (t.bumpHl d) := h.setPair _ _
theorem push16 (v : Word) (h : Path s t) : Path s (t.push16 v) :=
  (((h.setSp _).write _ _).setSp _).write _ _
theorem push (p : Pair) (h : Path s t) : Path s (t.push p) := h.push16 _
theorem pop (p : Pair) (h : Path s t) : Path s (t.pop p) := h.popSp.setPair _ _
theorem call (v : Word) (h : Path s t) : Path s (t.call v) := (h.push16 _).setPc _
theorem ret (h : Path s t) : Path s t.ret := h.popSp.setPc _
theorem memWrite16 (a v : Word) (h : Path s t) : Path s (t.memWrite16 a v) := (h.write _ _).write _ _

theorem writeLoc (l : Loc8) (v : Byte) (h : Path s t) : Path s (t.writeLoc l v) := by
  cases l
  case reg r => exact h.setReg r v
  case memHL => exact h.storeTo _ v

theorem alu (op : AluOp) (v : Byte) (h : Path s t) : Path s (t.alu op v) := by
  unfold State.alu; dsimp only; split
  · exact h.setFlags _ _ _ _
  · exact (h.setFlags _ _ _ _).setReg _ _

theorem incLoc (l : Loc8) (h : Path s t) : Path s (t.incLoc l) := (h.writeLoc l _).setFlags _ _ _ _
theorem decLoc (l : Loc8) (h : Path s t) : Path s (t.decLoc l) := (h.writeLoc l _).setFlags _ _ _ _
theorem shiftLoc (op : ShiftOp) (l : Loc8) (h : Path s t) : Path s (t.shiftLoc op l) :=
  (h.writeLoc l _).setFlags _ _ _ _
theorem rotateA (op : ShiftOp) (h : Path s t) : Path s (t.rotateA op) := (h.setReg _ _).setFlags _ _ _ _
theorem testBit (b : Nat) (l : Loc8) (h : Path s t) : Path s (t.testBit b l) := h.setFlags _ _ _ _
theorem resetBit (b : Nat) (l : Loc8) (h : Path s t) : Path s (t.resetBit b l) := h.writeLoc l _
theorem setBit (b : Nat) (l : Loc8) (h : Path s t) : Path s (t.setBit b l) := h.writeLoc l _
theorem daa (h : Path s t) : Path s t.daa := (h.setReg _ _).setFlags _ _ _ _
theorem addHl (p : Pair) (h : Path s t) : Path s (t.addHl p) := (h.setPair _ _).setFlags _ _ _ _
theorem spFlags (e : Byte) (h : Path s t) : Path s (t.spFlags e) := h.setFlags _ _ _ _

/-- A meaning that finishes is its path and the report. -/
theorem finish {n : Nat} {u : State} (h : Path s u) (g : Sys2Proof.Machine.finish n u = .next t) : Path s t := by
  cases g; exact .report n h

/-- A conditional transfer is its path or nothing, and the report. -/
theorem finishIf {b : Bool} {n m : Nat} {u : State} (h : Path s u)
    (g : Sys2Proof.Machine.finishIf b n m u s = .next t) : Path s t := by
  cases b
  · exact Path.finish .refl g
  · exact Path.finish h g

/-- The induction over a path: what register changes, bus writes and reports keep, it keeps. -/
theorem keeps {P : State → Prop} (hr : ∀ t r, P t → r.f = t.regs.f ∨ r.f &&& 0x0F = 0 → P { t with regs := r })
    (hw : ∀ t a v, P t → P (t.memWrite a v)) (hc : ∀ t n, P t → P (t.report n))
    (h : Path s t) (hs : P s) : P t := by
  induction h with
  | refl => exact hs
  | regs r _ hf ih => exact hr _ r ih hf
  | write a v _ ih => exact hw _ a v ih
  | report n _ ih => exact hc _ n ih

end Path

/-- What an instruction can do. -/
inductive Effect (s : State) : Instr → State → Prop where
  | path {i : Instr} {t : State} (h : Path s t) : Effect s i t
  | halt : Effect s .halt (s.halt.report 4)
  | stop (n : Byte) : Effect s (.stop n) (s.stop.report 4)
  | di : Effect s .di (State.report { s with ime := false, eiDelay := 0 } 4)
  | ei : Effect s .ei (s.enableInterrupts.report 4)
  | reti : Effect s .reti (s.returnFromInterrupt.report 16)

/-- Every meaning answers a next state: no instruction faults or is refused (60_exceptions R330). -/
theorem exec_next (i : Instr) (s : State) : ∃ t, exec i s = .next t := by
  have hf : ∀ (b : Bool) (n m : Nat) (u : State), ∃ t, finishIf b n m u s = .next t := by
    intro b n m u; cases b <;> exact ⟨_, rfl⟩
  cases i
  case jrNZE8 => exact hf _ _ _ _
  case jrZE8 => exact hf _ _ _ _
  case jrNCE8 => exact hf _ _ _ _
  case jrCE8 => exact hf _ _ _ _
  case retNZ => exact hf _ _ _ _
  case jpNZNN => exact hf _ _ _ _
  case callNZNN => exact hf _ _ _ _
  case retZ => exact hf _ _ _ _
  case jpZNN => exact hf _ _ _ _
  case callZNN => exact hf _ _ _ _
  case retNC => exact hf _ _ _ _
  case jpNCNN => exact hf _ _ _ _
  case callNCNN => exact hf _ _ _ _
  case retC => exact hf _ _ _ _
  case jpCNN => exact hf _ _ _ _
  case callCNN => exact hf _ _ _ _
  all_goals exact ⟨_, rfl⟩

/-- The inversion of `exec`: if it answers next t, then one of these effects is what it did. -/
theorem exec_effect {i : Instr} {s t : State} (h : exec i s = .next t) : Effect s i t := by
  cases i
  case nop => exact .path (Path.finish Path.refl h)
  case ldBCNN => exact .path (Path.finish (Path.refl.setPair _ _) h)
  case ldMemBCA => exact .path (Path.finish (Path.refl.storeTo _ _) h)
  case incBC => exact .path (Path.finish (Path.refl.setPair _ _) h)
  case incB => exact .path (Path.finish (Path.refl.incLoc _) h)
  case decB => exact .path (Path.finish (Path.refl.decLoc _) h)
  case ldBN => exact .path (Path.finish (Path.refl.setReg _ _) h)
  case rlca => exact .path (Path.finish (Path.refl.rotateA _) h)
  case ldMemNNSP => exact .path (Path.finish (Path.refl.memWrite16 _ _) h)
  case addHLBC => exact .path (Path.finish (Path.refl.addHl _) h)
  case ldAMemBC => exact .path (Path.finish (Path.refl.setReg _ _) h)
  case decBC => exact .path (Path.finish (Path.refl.setPair _ _) h)
  case incC => exact .path (Path.finish (Path.refl.incLoc _) h)
  case decC => exact .path (Path.finish (Path.refl.decLoc _) h)
  case ldCN => exact .path (Path.finish (Path.refl.setReg _ _) h)
  case rrca => exact .path (Path.finish (Path.refl.rotateA _) h)
  case stop => exact by cases h; exact .stop _
  case ldDENN => exact .path (Path.finish (Path.refl.setPair _ _) h)
  case ldMemDEA => exact .path (Path.finish (Path.refl.storeTo _ _) h)
  case incDE => exact .path (Path.finish (Path.refl.setPair _ _) h)
  case incD => exact .path (Path.finish (Path.refl.incLoc _) h)
  case decD => exact .path (Path.finish (Path.refl.decLoc _) h)
  case ldDN => exact .path (Path.finish (Path.refl.setReg _ _) h)
  case rla => exact .path (Path.finish (Path.refl.rotateA _) h)
  case jrE8 => exact .path (Path.finish (Path.refl.setPc _) h)
  case addHLDE => exact .path (Path.finish (Path.refl.addHl _) h)
  case ldAMemDE => exact .path (Path.finish (Path.refl.setReg _ _) h)
  case decDE => exact .path (Path.finish (Path.refl.setPair _ _) h)
  case incE => exact .path (Path.finish (Path.refl.incLoc _) h)
  case decE => exact .path (Path.finish (Path.refl.decLoc _) h)
  case ldEN => exact .path (Path.finish (Path.refl.setReg _ _) h)
  case rra => exact .path (Path.finish (Path.refl.rotateA _) h)
  case jrNZE8 => exact .path (Path.finishIf (Path.refl.setPc _) h)
  case ldHLNN => exact .path (Path.finish (Path.refl.setPair _ _) h)
  case ldMemHLIncA => exact .path (Path.finish ((Path.refl.storeTo _ _).bumpHl _) h)
  case incHL => exact .path (Path.finish (Path.refl.setPair _ _) h)
  case incH => exact .path (Path.finish (Path.refl.incLoc _) h)
  case decH => exact .path (Path.finish (Path.refl.decLoc _) h)
  case ldHN => exact .path (Path.finish (Path.refl.setReg _ _) h)
  case daa => exact .path (Path.finish (Path.refl.daa) h)
  case jrZE8 => exact .path (Path.finishIf (Path.refl.setPc _) h)
  case addHLHL => exact .path (Path.finish (Path.refl.addHl _) h)
  case ldAMemHLInc => exact .path (Path.finish ((Path.refl.setReg _ _).bumpHl _) h)
  case decHL => exact .path (Path.finish (Path.refl.setPair _ _) h)
  case incL => exact .path (Path.finish (Path.refl.incLoc _) h)
  case decL => exact .path (Path.finish (Path.refl.decLoc _) h)
  case ldLN => exact .path (Path.finish (Path.refl.setReg _ _) h)
  case cpl => exact .path (Path.finish ((Path.refl.setReg _ _).setFlags _ _ _ _) h)
  case jrNCE8 => exact .path (Path.finishIf (Path.refl.setPc _) h)
  case ldSPNN => exact .path (Path.finish (Path.refl.setPair _ _) h)
  case ldMemHLDecA => exact .path (Path.finish ((Path.refl.storeTo _ _).bumpHl _) h)
  case incSP => exact .path (Path.finish (Path.refl.setPair _ _) h)
  case incMemHL => exact .path (Path.finish (Path.refl.incLoc _) h)
  case decMemHL => exact .path (Path.finish (Path.refl.decLoc _) h)
  case ldMemHLN => exact .path (Path.finish (Path.refl.storeTo _ _) h)
  case scf => exact .path (Path.finish (Path.refl.setFlags _ _ _ _) h)
  case jrCE8 => exact .path (Path.finishIf (Path.refl.setPc _) h)
  case addHLSP => exact .path (Path.finish (Path.refl.addHl _) h)
  case ldAMemHLDec => exact .path (Path.finish ((Path.refl.setReg _ _).bumpHl _) h)
  case decSP => exact .path (Path.finish (Path.refl.setPair _ _) h)
  case incA => exact .path (Path.finish (Path.refl.incLoc _) h)
  case decA => exact .path (Path.finish (Path.refl.decLoc _) h)
  case ldAN => exact .path (Path.finish (Path.refl.setReg _ _) h)
  case ccf => exact .path (Path.finish (Path.refl.setFlags _ _ _ _) h)
  case ldBB => exact .path (Path.finish (Path.refl.setReg _ _) h)
  case ldBC => exact .path (Path.finish (Path.refl.setReg _ _) h)
  case ldBD => exact .path (Path.finish (Path.refl.setReg _ _) h)
  case ldBE => exact .path (Path.finish (Path.refl.setReg _ _) h)
  case ldBH => exact .path (Path.finish (Path.refl.setReg _ _) h)
  case ldBL => exact .path (Path.finish (Path.refl.setReg _ _) h)
  case ldBMemHL => exact .path (Path.finish (Path.refl.setReg _ _) h)
  case ldBA => exact .path (Path.finish (Path.refl.setReg _ _) h)
  case ldCB => exact .path (Path.finish (Path.refl.setReg _ _) h)
  case ldCC => exact .path (Path.finish (Path.refl.setReg _ _) h)
  case ldCD => exact .path (Path.finish (Path.refl.setReg _ _) h)
  case ldCE => exact .path (Path.finish (Path.refl.setReg _ _) h)
  case ldCH => exact .path (Path.finish (Path.refl.setReg _ _) h)
  case ldCL => exact .path (Path.finish (Path.refl.setReg _ _) h)
  case ldCMemHL => exact .path (Path.finish (Path.refl.setReg _ _) h)
  case ldCA => exact .path (Path.finish (Path.refl.setReg _ _) h)
  case ldDB => exact .path (Path.finish (Path.refl.setReg _ _) h)
  case ldDC => exact .path (Path.finish (Path.refl.setReg _ _) h)
  case ldDD => exact .path (Path.finish (Path.refl.setReg _ _) h)
  case ldDE => exact .path (Path.finish (Path.refl.setReg _ _) h)
  case ldDH => exact .path (Path.finish (Path.refl.setReg _ _) h)
  case ldDL => exact .path (Path.finish (Path.refl.setReg _ _) h)
  case ldDMemHL => exact .path (Path.finish (Path.refl.setReg _ _) h)
  case ldDA => exact .path (Path.finish (Path.refl.setReg _ _) h)
  case ldEB => exact .path (Path.finish (Path.refl.setReg _ _) h)
  case ldEC => exact .path (Path.finish (Path.refl.setReg _ _) h)
  case ldED => exact .path (Path.finish (Path.refl.setReg _ _) h)
  case ldEE => exact .path (Path.finish (Path.refl.setReg _ _) h)
  case ldEH => exact .path (Path.finish (Path.refl.setReg _ _) h)
  case ldEL => exact .path (Path.finish (Path.refl.setReg _ _) h)
  case ldEMemHL => exact .path (Path.finish (Path.refl.setReg _ _) h)
  case ldEA => exact .path (Path.finish (Path.refl.setReg _ _) h)
  case ldHB => exact .path (Path.finish (Path.refl.setReg _ _) h)
  case ldHC => exact .path (Path.finish (Path.refl.setReg _ _) h)
  case ldHD => exact .path (Path.finish (Path.refl.setReg _ _) h)
  case ldHE => exact .path (Path.finish (Path.refl.setReg _ _) h)
  case ldHH => exact .path (Path.finish (Path.refl.setReg _ _) h)
  case ldHL => exact .path (Path.finish (Path.refl.setReg _ _) h)
  case ldHMemHL => exact .path (Path.finish (Path.refl.setReg _ _) h)
  case ldHA => exact .path (Path.finish (Path.refl.setReg _ _) h)
  case ldLB => exact .path (Path.finish (Path.refl.setReg _ _) h)
  case ldLC => exact .path (Path.finish (Path.refl.setReg _ _) h)
  case ldLD => exact .path (Path.finish (Path.refl.setReg _ _) h)
  case ldLE => exact .path (Path.finish (Path.refl.setReg _ _) h)
  case ldLH => exact .path (Path.finish (Path.refl.setReg _ _) h)
  case ldLL => exact .path (Path.finish (Path.refl.setReg _ _) h)
  case ldLMemHL => exact .path (Path.finish (Path.refl.setReg _ _) h)
  case ldLA => exact .path (Path.finish (Path.refl.setReg _ _) h)
  case ldMemHLB => exact .path (Path.finish (Path.refl.storeTo _ _) h)
  case ldMemHLC => exact .path (Path.finish (Path.refl.storeTo _ _) h)
  case ldMemHLD => exact .path (Path.finish (Path.refl.storeTo _ _) h)
  case ldMemHLE => exact .path (Path.finish (Path.refl.storeTo _ _) h)
  case ldMemHLH => exact .path (Path.finish (Path.refl.storeTo _ _) h)
  case ldMemHLL => exact .path (Path.finish (Path.refl.storeTo _ _) h)
  case halt => exact by cases h; exact .halt
  case ldMemHLA => exact .path (Path.finish (Path.refl.storeTo _ _) h)
  case ldAB => exact .path (Path.finish (Path.refl.setReg _ _) h)
  case ldAC => exact .path (Path.finish (Path.refl.setReg _ _) h)
  case ldAD => exact .path (Path.finish (Path.refl.setReg _ _) h)
  case ldAE => exact .path (Path.finish (Path.refl.setReg _ _) h)
  case ldAH => exact .path (Path.finish (Path.refl.setReg _ _) h)
  case ldAL => exact .path (Path.finish (Path.refl.setReg _ _) h)
  case ldAMemHL => exact .path (Path.finish (Path.refl.setReg _ _) h)
  case ldAA => exact .path (Path.finish (Path.refl.setReg _ _) h)
  case addAB => exact .path (Path.finish (Path.refl.alu _ _) h)
  case addAC => exact .path (Path.finish (Path.refl.alu _ _) h)
  case addAD => exact .path (Path.finish (Path.refl.alu _ _) h)
  case addAE => exact .path (Path.finish (Path.refl.alu _ _) h)
  case addAH => exact .path (Path.finish (Path.refl.alu _ _) h)
  case addAL => exact .path (Path.finish (Path.refl.alu _ _) h)
  case addAMemHL => exact .path (Path.finish (Path.refl.alu _ _) h)
  case addAA => exact .path (Path.finish (Path.refl.alu _ _) h)
  case adcAB => exact .path (Path.finish (Path.refl.alu _ _) h)
  case adcAC => exact .path (Path.finish (Path.refl.alu _ _) h)
  case adcAD => exact .path (Path.finish (Path.refl.alu _ _) h)
  case adcAE => exact .path (Path.finish (Path.refl.alu _ _) h)
  case adcAH => exact .path (Path.finish (Path.refl.alu _ _) h)
  case adcAL => exact .path (Path.finish (Path.refl.alu _ _) h)
  case adcAMemHL => exact .path (Path.finish (Path.refl.alu _ _) h)
  case adcAA => exact .path (Path.finish (Path.refl.alu _ _) h)
  case subB => exact .path (Path.finish (Path.refl.alu _ _) h)
  case subC => exact .path (Path.finish (Path.refl.alu _ _) h)
  case subD => exact .path (Path.finish (Path.refl.alu _ _) h)
  case subE => exact .path (Path.finish (Path.refl.alu _ _) h)
  case subH => exact .path (Path.finish (Path.refl.alu _ _) h)
  case subL => exact .path (Path.finish (Path.refl.alu _ _) h)
  case subMemHL => exact .path (Path.finish (Path.refl.alu _ _) h)
  case subA => exact .path (Path.finish (Path.refl.alu _ _) h)
  case sbcAB => exact .path (Path.finish (Path.refl.alu _ _) h)
  case sbcAC => exact .path (Path.finish (Path.refl.alu _ _) h)
  case sbcAD => exact .path (Path.finish (Path.refl.alu _ _) h)
  case sbcAE => exact .path (Path.finish (Path.refl.alu _ _) h)
  case sbcAH => exact .path (Path.finish (Path.refl.alu _ _) h)
  case sbcAL => exact .path (Path.finish (Path.refl.alu _ _) h)
  case sbcAMemHL => exact .path (Path.finish (Path.refl.alu _ _) h)
  case sbcAA => exact .path (Path.finish (Path.refl.alu _ _) h)
  case andB => exact .path (Path.finish (Path.refl.alu _ _) h)
  case andC => exact .path (Path.finish (Path.refl.alu _ _) h)
  case andD => exact .path (Path.finish (Path.refl.alu _ _) h)
  case andE => exact .path (Path.finish (Path.refl.alu _ _) h)
  case andH => exact .path (Path.finish (Path.refl.alu _ _) h)
  case andL => exact .path (Path.finish (Path.refl.alu _ _) h)
  case andMemHL => exact .path (Path.finish (Path.refl.alu _ _) h)
  case andA => exact .path (Path.finish (Path.refl.alu _ _) h)
  case xorB => exact .path (Path.finish (Path.refl.alu _ _) h)
  case xorC => exact .path (Path.finish (Path.refl.alu _ _) h)
  case xorD => exact .path (Path.finish (Path.refl.alu _ _) h)
  case xorE => exact .path (Path.finish (Path.refl.alu _ _) h)
  case xorH => exact .path (Path.finish (Path.refl.alu _ _) h)
  case xorL => exact .path (Path.finish (Path.refl.alu _ _) h)
  case xorMemHL => exact .path (Path.finish (Path.refl.alu _ _) h)
  case xorA => exact .path (Path.finish (Path.refl.alu _ _) h)
  case orB => exact .path (Path.finish (Path.refl.alu _ _) h)
  case orC => exact .path (Path.finish (Path.refl.alu _ _) h)
  case orD => exact .path (Path.finish (Path.refl.alu _ _) h)
  case orE => exact .path (Path.finish (Path.refl.alu _ _) h)
  case orH => exact .path (Path.finish (Path.refl.alu _ _) h)
  case orL => exact .path (Path.finish (Path.refl.alu _ _) h)
  case orMemHL => exact .path (Path.finish (Path.refl.alu _ _) h)
  case orA => exact .path (Path.finish (Path.refl.alu _ _) h)
  case cpB => exact .path (Path.finish (Path.refl.alu _ _) h)
  case cpC => exact .path (Path.finish (Path.refl.alu _ _) h)
  case cpD => exact .path (Path.finish (Path.refl.alu _ _) h)
  case cpE => exact .path (Path.finish (Path.refl.alu _ _) h)
  case cpH => exact .path (Path.finish (Path.refl.alu _ _) h)
  case cpL => exact .path (Path.finish (Path.refl.alu _ _) h)
  case cpMemHL => exact .path (Path.finish (Path.refl.alu _ _) h)
  case cpA => exact .path (Path.finish (Path.refl.alu _ _) h)
  case retNZ => exact .path (Path.finishIf (Path.refl.ret) h)
  case popBC => exact .path (Path.finish (Path.refl.pop _) h)
  case jpNZNN => exact .path (Path.finishIf (Path.refl.setPc _) h)
  case jpNN => exact .path (Path.finish (Path.refl.setPc _) h)
  case callNZNN => exact .path (Path.finishIf (Path.refl.call _) h)
  case pushBC => exact .path (Path.finish (Path.refl.push _) h)
  case addAN => exact .path (Path.finish (Path.refl.alu _ _) h)
  case rst00 => exact .path (Path.finish (Path.refl.call _) h)
  case retZ => exact .path (Path.finishIf (Path.refl.ret) h)
  case ret => exact .path (Path.finish (Path.refl.ret) h)
  case jpZNN => exact .path (Path.finishIf (Path.refl.setPc _) h)
  case callZNN => exact .path (Path.finishIf (Path.refl.call _) h)
  case callNN => exact .path (Path.finish (Path.refl.call _) h)
  case adcAN => exact .path (Path.finish (Path.refl.alu _ _) h)
  case rst08 => exact .path (Path.finish (Path.refl.call _) h)
  case retNC => exact .path (Path.finishIf (Path.refl.ret) h)
  case popDE => exact .path (Path.finish (Path.refl.pop _) h)
  case jpNCNN => exact .path (Path.finishIf (Path.refl.setPc _) h)
  case callNCNN => exact .path (Path.finishIf (Path.refl.call _) h)
  case pushDE => exact .path (Path.finish (Path.refl.push _) h)
  case subN => exact .path (Path.finish (Path.refl.alu _ _) h)
  case rst10 => exact .path (Path.finish (Path.refl.call _) h)
  case retC => exact .path (Path.finishIf (Path.refl.ret) h)
  case reti => exact by cases h; exact .reti
  case jpCNN => exact .path (Path.finishIf (Path.refl.setPc _) h)
  case callCNN => exact .path (Path.finishIf (Path.refl.call _) h)
  case sbcAN => exact .path (Path.finish (Path.refl.alu _ _) h)
  case rst18 => exact .path (Path.finish (Path.refl.call _) h)
  case ldhMemNA => exact .path (Path.finish (Path.refl.storeTo _ _) h)
  case popHL => exact .path (Path.finish (Path.refl.pop _) h)
  case ldhMemCA => exact .path (Path.finish (Path.refl.storeTo _ _) h)
  case pushHL => exact .path (Path.finish (Path.refl.push _) h)
  case andN => exact .path (Path.finish (Path.refl.alu _ _) h)
  case rst20 => exact .path (Path.finish (Path.refl.call _) h)
  case addSPE8 => exact .path (Path.finish ((Path.refl.spFlags _).setSp _) h)
  case jpHL => exact .path (Path.finish (Path.refl.setPc _) h)
  case ldMemNNA => exact .path (Path.finish (Path.refl.storeTo _ _) h)
  case xorN => exact .path (Path.finish (Path.refl.alu _ _) h)
  case rst28 => exact .path (Path.finish (Path.refl.call _) h)
  case ldhAMemN => exact .path (Path.finish (Path.refl.setReg _ _) h)
  case popAF => exact .path (Path.finish (Path.refl.pop _) h)
  case ldhAMemC => exact .path (Path.finish (Path.refl.setReg _ _) h)
  case di => exact by cases h; exact .di
  case pushAF => exact .path (Path.finish (Path.refl.push _) h)
  case orN => exact .path (Path.finish (Path.refl.alu _ _) h)
  case rst30 => exact .path (Path.finish (Path.refl.call _) h)
  case ldHLSPE => exact .path (Path.finish ((Path.refl.setPair _ _).setFlags _ _ _ _) h)
  case ldSPHL => exact .path (Path.finish (Path.refl.setPair _ _) h)
  case ldAMemNN => exact .path (Path.finish (Path.refl.setReg _ _) h)
  case ei => exact by cases h; exact .ei
  case cpN => exact .path (Path.finish (Path.refl.alu _ _) h)
  case rst38 => exact .path (Path.finish (Path.refl.call _) h)
  case rlcB => exact .path (Path.finish (Path.refl.shiftLoc _ _) h)
  case rlcC => exact .path (Path.finish (Path.refl.shiftLoc _ _) h)
  case rlcD => exact .path (Path.finish (Path.refl.shiftLoc _ _) h)
  case rlcE => exact .path (Path.finish (Path.refl.shiftLoc _ _) h)
  case rlcH => exact .path (Path.finish (Path.refl.shiftLoc _ _) h)
  case rlcL => exact .path (Path.finish (Path.refl.shiftLoc _ _) h)
  case rlcMemHL => exact .path (Path.finish (Path.refl.shiftLoc _ _) h)
  case rlcA => exact .path (Path.finish (Path.refl.shiftLoc _ _) h)
  case rrcB => exact .path (Path.finish (Path.refl.shiftLoc _ _) h)
  case rrcC => exact .path (Path.finish (Path.refl.shiftLoc _ _) h)
  case rrcD => exact .path (Path.finish (Path.refl.shiftLoc _ _) h)
  case rrcE => exact .path (Path.finish (Path.refl.shiftLoc _ _) h)
  case rrcH => exact .path (Path.finish (Path.refl.shiftLoc _ _) h)
  case rrcL => exact .path (Path.finish (Path.refl.shiftLoc _ _) h)
  case rrcMemHL => exact .path (Path.finish (Path.refl.shiftLoc _ _) h)
  case rrcA => exact .path (Path.finish (Path.refl.shiftLoc _ _) h)
  case rlB => exact .path (Path.finish (Path.refl.shiftLoc _ _) h)
  case rlC => exact .path (Path.finish (Path.refl.shiftLoc _ _) h)
  case rlD => exact .path (Path.finish (Path.refl.shiftLoc _ _) h)
  case rlE => exact .path (Path.finish (Path.refl.shiftLoc _ _) h)
  case rlH => exact .path (Path.finish (Path.refl.shiftLoc _ _) h)
  case rlL => exact .path (Path.finish (Path.refl.shiftLoc _ _) h)
  case rlMemHL => exact .path (Path.finish (Path.refl.shiftLoc _ _) h)
  case rlA => exact .path (Path.finish (Path.refl.shiftLoc _ _) h)
  case rrB => exact .path (Path.finish (Path.refl.shiftLoc _ _) h)
  case rrC => exact .path (Path.finish (Path.refl.shiftLoc _ _) h)
  case rrD => exact .path (Path.finish (Path.refl.shiftLoc _ _) h)
  case rrE => exact .path (Path.finish (Path.refl.shiftLoc _ _) h)
  case rrH => exact .path (Path.finish (Path.refl.shiftLoc _ _) h)
  case rrL => exact .path (Path.finish (Path.refl.shiftLoc _ _) h)
  case rrMemHL => exact .path (Path.finish (Path.refl.shiftLoc _ _) h)
  case rrA => exact .path (Path.finish (Path.refl.shiftLoc _ _) h)
  case slaB => exact .path (Path.finish (Path.refl.shiftLoc _ _) h)
  case slaC => exact .path (Path.finish (Path.refl.shiftLoc _ _) h)
  case slaD => exact .path (Path.finish (Path.refl.shiftLoc _ _) h)
  case slaE => exact .path (Path.finish (Path.refl.shiftLoc _ _) h)
  case slaH => exact .path (Path.finish (Path.refl.shiftLoc _ _) h)
  case slaL => exact .path (Path.finish (Path.refl.shiftLoc _ _) h)
  case slaMemHL => exact .path (Path.finish (Path.refl.shiftLoc _ _) h)
  case slaA => exact .path (Path.finish (Path.refl.shiftLoc _ _) h)
  case sraB => exact .path (Path.finish (Path.refl.shiftLoc _ _) h)
  case sraC => exact .path (Path.finish (Path.refl.shiftLoc _ _) h)
  case sraD => exact .path (Path.finish (Path.refl.shiftLoc _ _) h)
  case sraE => exact .path (Path.finish (Path.refl.shiftLoc _ _) h)
  case sraH => exact .path (Path.finish (Path.refl.shiftLoc _ _) h)
  case sraL => exact .path (Path.finish (Path.refl.shiftLoc _ _) h)
  case sraMemHL => exact .path (Path.finish (Path.refl.shiftLoc _ _) h)
  case sraA => exact .path (Path.finish (Path.refl.shiftLoc _ _) h)
  case swapB => exact .path (Path.finish (Path.refl.shiftLoc _ _) h)
  case swapC => exact .path (Path.finish (Path.refl.shiftLoc _ _) h)
  case swapD => exact .path (Path.finish (Path.refl.shiftLoc _ _) h)
  case swapE => exact .path (Path.finish (Path.refl.shiftLoc _ _) h)
  case swapH => exact .path (Path.finish (Path.refl.shiftLoc _ _) h)
  case swapL => exact .path (Path.finish (Path.refl.shiftLoc _ _) h)
  case swapMemHL => exact .path (Path.finish (Path.refl.shiftLoc _ _) h)
  case swapA => exact .path (Path.finish (Path.refl.shiftLoc _ _) h)
  case srlB => exact .path (Path.finish (Path.refl.shiftLoc _ _) h)
  case srlC => exact .path (Path.finish (Path.refl.shiftLoc _ _) h)
  case srlD => exact .path (Path.finish (Path.refl.shiftLoc _ _) h)
  case srlE => exact .path (Path.finish (Path.refl.shiftLoc _ _) h)
  case srlH => exact .path (Path.finish (Path.refl.shiftLoc _ _) h)
  case srlL => exact .path (Path.finish (Path.refl.shiftLoc _ _) h)
  case srlMemHL => exact .path (Path.finish (Path.refl.shiftLoc _ _) h)
  case srlA => exact .path (Path.finish (Path.refl.shiftLoc _ _) h)
  case bit0B => exact .path (Path.finish (Path.refl.testBit _ _) h)
  case bit0C => exact .path (Path.finish (Path.refl.testBit _ _) h)
  case bit0D => exact .path (Path.finish (Path.refl.testBit _ _) h)
  case bit0E => exact .path (Path.finish (Path.refl.testBit _ _) h)
  case bit0H => exact .path (Path.finish (Path.refl.testBit _ _) h)
  case bit0L => exact .path (Path.finish (Path.refl.testBit _ _) h)
  case bit0MemHL => exact .path (Path.finish (Path.refl.testBit _ _) h)
  case bit0A => exact .path (Path.finish (Path.refl.testBit _ _) h)
  case bit1B => exact .path (Path.finish (Path.refl.testBit _ _) h)
  case bit1C => exact .path (Path.finish (Path.refl.testBit _ _) h)
  case bit1D => exact .path (Path.finish (Path.refl.testBit _ _) h)
  case bit1E => exact .path (Path.finish (Path.refl.testBit _ _) h)
  case bit1H => exact .path (Path.finish (Path.refl.testBit _ _) h)
  case bit1L => exact .path (Path.finish (Path.refl.testBit _ _) h)
  case bit1MemHL => exact .path (Path.finish (Path.refl.testBit _ _) h)
  case bit1A => exact .path (Path.finish (Path.refl.testBit _ _) h)
  case bit2B => exact .path (Path.finish (Path.refl.testBit _ _) h)
  case bit2C => exact .path (Path.finish (Path.refl.testBit _ _) h)
  case bit2D => exact .path (Path.finish (Path.refl.testBit _ _) h)
  case bit2E => exact .path (Path.finish (Path.refl.testBit _ _) h)
  case bit2H => exact .path (Path.finish (Path.refl.testBit _ _) h)
  case bit2L => exact .path (Path.finish (Path.refl.testBit _ _) h)
  case bit2MemHL => exact .path (Path.finish (Path.refl.testBit _ _) h)
  case bit2A => exact .path (Path.finish (Path.refl.testBit _ _) h)
  case bit3B => exact .path (Path.finish (Path.refl.testBit _ _) h)
  case bit3C => exact .path (Path.finish (Path.refl.testBit _ _) h)
  case bit3D => exact .path (Path.finish (Path.refl.testBit _ _) h)
  case bit3E => exact .path (Path.finish (Path.refl.testBit _ _) h)
  case bit3H => exact .path (Path.finish (Path.refl.testBit _ _) h)
  case bit3L => exact .path (Path.finish (Path.refl.testBit _ _) h)
  case bit3MemHL => exact .path (Path.finish (Path.refl.testBit _ _) h)
  case bit3A => exact .path (Path.finish (Path.refl.testBit _ _) h)
  case bit4B => exact .path (Path.finish (Path.refl.testBit _ _) h)
  case bit4C => exact .path (Path.finish (Path.refl.testBit _ _) h)
  case bit4D => exact .path (Path.finish (Path.refl.testBit _ _) h)
  case bit4E => exact .path (Path.finish (Path.refl.testBit _ _) h)
  case bit4H => exact .path (Path.finish (Path.refl.testBit _ _) h)
  case bit4L => exact .path (Path.finish (Path.refl.testBit _ _) h)
  case bit4MemHL => exact .path (Path.finish (Path.refl.testBit _ _) h)
  case bit4A => exact .path (Path.finish (Path.refl.testBit _ _) h)
  case bit5B => exact .path (Path.finish (Path.refl.testBit _ _) h)
  case bit5C => exact .path (Path.finish (Path.refl.testBit _ _) h)
  case bit5D => exact .path (Path.finish (Path.refl.testBit _ _) h)
  case bit5E => exact .path (Path.finish (Path.refl.testBit _ _) h)
  case bit5H => exact .path (Path.finish (Path.refl.testBit _ _) h)
  case bit5L => exact .path (Path.finish (Path.refl.testBit _ _) h)
  case bit5MemHL => exact .path (Path.finish (Path.refl.testBit _ _) h)
  case bit5A => exact .path (Path.finish (Path.refl.testBit _ _) h)
  case bit6B => exact .path (Path.finish (Path.refl.testBit _ _) h)
  case bit6C => exact .path (Path.finish (Path.refl.testBit _ _) h)
  case bit6D => exact .path (Path.finish (Path.refl.testBit _ _) h)
  case bit6E => exact .path (Path.finish (Path.refl.testBit _ _) h)
  case bit6H => exact .path (Path.finish (Path.refl.testBit _ _) h)
  case bit6L => exact .path (Path.finish (Path.refl.testBit _ _) h)
  case bit6MemHL => exact .path (Path.finish (Path.refl.testBit _ _) h)
  case bit6A => exact .path (Path.finish (Path.refl.testBit _ _) h)
  case bit7B => exact .path (Path.finish (Path.refl.testBit _ _) h)
  case bit7C => exact .path (Path.finish (Path.refl.testBit _ _) h)
  case bit7D => exact .path (Path.finish (Path.refl.testBit _ _) h)
  case bit7E => exact .path (Path.finish (Path.refl.testBit _ _) h)
  case bit7H => exact .path (Path.finish (Path.refl.testBit _ _) h)
  case bit7L => exact .path (Path.finish (Path.refl.testBit _ _) h)
  case bit7MemHL => exact .path (Path.finish (Path.refl.testBit _ _) h)
  case bit7A => exact .path (Path.finish (Path.refl.testBit _ _) h)
  case res0B => exact .path (Path.finish (Path.refl.resetBit _ _) h)
  case res0C => exact .path (Path.finish (Path.refl.resetBit _ _) h)
  case res0D => exact .path (Path.finish (Path.refl.resetBit _ _) h)
  case res0E => exact .path (Path.finish (Path.refl.resetBit _ _) h)
  case res0H => exact .path (Path.finish (Path.refl.resetBit _ _) h)
  case res0L => exact .path (Path.finish (Path.refl.resetBit _ _) h)
  case res0MemHL => exact .path (Path.finish (Path.refl.resetBit _ _) h)
  case res0A => exact .path (Path.finish (Path.refl.resetBit _ _) h)
  case res1B => exact .path (Path.finish (Path.refl.resetBit _ _) h)
  case res1C => exact .path (Path.finish (Path.refl.resetBit _ _) h)
  case res1D => exact .path (Path.finish (Path.refl.resetBit _ _) h)
  case res1E => exact .path (Path.finish (Path.refl.resetBit _ _) h)
  case res1H => exact .path (Path.finish (Path.refl.resetBit _ _) h)
  case res1L => exact .path (Path.finish (Path.refl.resetBit _ _) h)
  case res1MemHL => exact .path (Path.finish (Path.refl.resetBit _ _) h)
  case res1A => exact .path (Path.finish (Path.refl.resetBit _ _) h)
  case res2B => exact .path (Path.finish (Path.refl.resetBit _ _) h)
  case res2C => exact .path (Path.finish (Path.refl.resetBit _ _) h)
  case res2D => exact .path (Path.finish (Path.refl.resetBit _ _) h)
  case res2E => exact .path (Path.finish (Path.refl.resetBit _ _) h)
  case res2H => exact .path (Path.finish (Path.refl.resetBit _ _) h)
  case res2L => exact .path (Path.finish (Path.refl.resetBit _ _) h)
  case res2MemHL => exact .path (Path.finish (Path.refl.resetBit _ _) h)
  case res2A => exact .path (Path.finish (Path.refl.resetBit _ _) h)
  case res3B => exact .path (Path.finish (Path.refl.resetBit _ _) h)
  case res3C => exact .path (Path.finish (Path.refl.resetBit _ _) h)
  case res3D => exact .path (Path.finish (Path.refl.resetBit _ _) h)
  case res3E => exact .path (Path.finish (Path.refl.resetBit _ _) h)
  case res3H => exact .path (Path.finish (Path.refl.resetBit _ _) h)
  case res3L => exact .path (Path.finish (Path.refl.resetBit _ _) h)
  case res3MemHL => exact .path (Path.finish (Path.refl.resetBit _ _) h)
  case res3A => exact .path (Path.finish (Path.refl.resetBit _ _) h)
  case res4B => exact .path (Path.finish (Path.refl.resetBit _ _) h)
  case res4C => exact .path (Path.finish (Path.refl.resetBit _ _) h)
  case res4D => exact .path (Path.finish (Path.refl.resetBit _ _) h)
  case res4E => exact .path (Path.finish (Path.refl.resetBit _ _) h)
  case res4H => exact .path (Path.finish (Path.refl.resetBit _ _) h)
  case res4L => exact .path (Path.finish (Path.refl.resetBit _ _) h)
  case res4MemHL => exact .path (Path.finish (Path.refl.resetBit _ _) h)
  case res4A => exact .path (Path.finish (Path.refl.resetBit _ _) h)
  case res5B => exact .path (Path.finish (Path.refl.resetBit _ _) h)
  case res5C => exact .path (Path.finish (Path.refl.resetBit _ _) h)
  case res5D => exact .path (Path.finish (Path.refl.resetBit _ _) h)
  case res5E => exact .path (Path.finish (Path.refl.resetBit _ _) h)
  case res5H => exact .path (Path.finish (Path.refl.resetBit _ _) h)
  case res5L => exact .path (Path.finish (Path.refl.resetBit _ _) h)
  case res5MemHL => exact .path (Path.finish (Path.refl.resetBit _ _) h)
  case res5A => exact .path (Path.finish (Path.refl.resetBit _ _) h)
  case res6B => exact .path (Path.finish (Path.refl.resetBit _ _) h)
  case res6C => exact .path (Path.finish (Path.refl.resetBit _ _) h)
  case res6D => exact .path (Path.finish (Path.refl.resetBit _ _) h)
  case res6E => exact .path (Path.finish (Path.refl.resetBit _ _) h)
  case res6H => exact .path (Path.finish (Path.refl.resetBit _ _) h)
  case res6L => exact .path (Path.finish (Path.refl.resetBit _ _) h)
  case res6MemHL => exact .path (Path.finish (Path.refl.resetBit _ _) h)
  case res6A => exact .path (Path.finish (Path.refl.resetBit _ _) h)
  case res7B => exact .path (Path.finish (Path.refl.resetBit _ _) h)
  case res7C => exact .path (Path.finish (Path.refl.resetBit _ _) h)
  case res7D => exact .path (Path.finish (Path.refl.resetBit _ _) h)
  case res7E => exact .path (Path.finish (Path.refl.resetBit _ _) h)
  case res7H => exact .path (Path.finish (Path.refl.resetBit _ _) h)
  case res7L => exact .path (Path.finish (Path.refl.resetBit _ _) h)
  case res7MemHL => exact .path (Path.finish (Path.refl.resetBit _ _) h)
  case res7A => exact .path (Path.finish (Path.refl.resetBit _ _) h)
  case set0B => exact .path (Path.finish (Path.refl.setBit _ _) h)
  case set0C => exact .path (Path.finish (Path.refl.setBit _ _) h)
  case set0D => exact .path (Path.finish (Path.refl.setBit _ _) h)
  case set0E => exact .path (Path.finish (Path.refl.setBit _ _) h)
  case set0H => exact .path (Path.finish (Path.refl.setBit _ _) h)
  case set0L => exact .path (Path.finish (Path.refl.setBit _ _) h)
  case set0MemHL => exact .path (Path.finish (Path.refl.setBit _ _) h)
  case set0A => exact .path (Path.finish (Path.refl.setBit _ _) h)
  case set1B => exact .path (Path.finish (Path.refl.setBit _ _) h)
  case set1C => exact .path (Path.finish (Path.refl.setBit _ _) h)
  case set1D => exact .path (Path.finish (Path.refl.setBit _ _) h)
  case set1E => exact .path (Path.finish (Path.refl.setBit _ _) h)
  case set1H => exact .path (Path.finish (Path.refl.setBit _ _) h)
  case set1L => exact .path (Path.finish (Path.refl.setBit _ _) h)
  case set1MemHL => exact .path (Path.finish (Path.refl.setBit _ _) h)
  case set1A => exact .path (Path.finish (Path.refl.setBit _ _) h)
  case set2B => exact .path (Path.finish (Path.refl.setBit _ _) h)
  case set2C => exact .path (Path.finish (Path.refl.setBit _ _) h)
  case set2D => exact .path (Path.finish (Path.refl.setBit _ _) h)
  case set2E => exact .path (Path.finish (Path.refl.setBit _ _) h)
  case set2H => exact .path (Path.finish (Path.refl.setBit _ _) h)
  case set2L => exact .path (Path.finish (Path.refl.setBit _ _) h)
  case set2MemHL => exact .path (Path.finish (Path.refl.setBit _ _) h)
  case set2A => exact .path (Path.finish (Path.refl.setBit _ _) h)
  case set3B => exact .path (Path.finish (Path.refl.setBit _ _) h)
  case set3C => exact .path (Path.finish (Path.refl.setBit _ _) h)
  case set3D => exact .path (Path.finish (Path.refl.setBit _ _) h)
  case set3E => exact .path (Path.finish (Path.refl.setBit _ _) h)
  case set3H => exact .path (Path.finish (Path.refl.setBit _ _) h)
  case set3L => exact .path (Path.finish (Path.refl.setBit _ _) h)
  case set3MemHL => exact .path (Path.finish (Path.refl.setBit _ _) h)
  case set3A => exact .path (Path.finish (Path.refl.setBit _ _) h)
  case set4B => exact .path (Path.finish (Path.refl.setBit _ _) h)
  case set4C => exact .path (Path.finish (Path.refl.setBit _ _) h)
  case set4D => exact .path (Path.finish (Path.refl.setBit _ _) h)
  case set4E => exact .path (Path.finish (Path.refl.setBit _ _) h)
  case set4H => exact .path (Path.finish (Path.refl.setBit _ _) h)
  case set4L => exact .path (Path.finish (Path.refl.setBit _ _) h)
  case set4MemHL => exact .path (Path.finish (Path.refl.setBit _ _) h)
  case set4A => exact .path (Path.finish (Path.refl.setBit _ _) h)
  case set5B => exact .path (Path.finish (Path.refl.setBit _ _) h)
  case set5C => exact .path (Path.finish (Path.refl.setBit _ _) h)
  case set5D => exact .path (Path.finish (Path.refl.setBit _ _) h)
  case set5E => exact .path (Path.finish (Path.refl.setBit _ _) h)
  case set5H => exact .path (Path.finish (Path.refl.setBit _ _) h)
  case set5L => exact .path (Path.finish (Path.refl.setBit _ _) h)
  case set5MemHL => exact .path (Path.finish (Path.refl.setBit _ _) h)
  case set5A => exact .path (Path.finish (Path.refl.setBit _ _) h)
  case set6B => exact .path (Path.finish (Path.refl.setBit _ _) h)
  case set6C => exact .path (Path.finish (Path.refl.setBit _ _) h)
  case set6D => exact .path (Path.finish (Path.refl.setBit _ _) h)
  case set6E => exact .path (Path.finish (Path.refl.setBit _ _) h)
  case set6H => exact .path (Path.finish (Path.refl.setBit _ _) h)
  case set6L => exact .path (Path.finish (Path.refl.setBit _ _) h)
  case set6MemHL => exact .path (Path.finish (Path.refl.setBit _ _) h)
  case set6A => exact .path (Path.finish (Path.refl.setBit _ _) h)
  case set7B => exact .path (Path.finish (Path.refl.setBit _ _) h)
  case set7C => exact .path (Path.finish (Path.refl.setBit _ _) h)
  case set7D => exact .path (Path.finish (Path.refl.setBit _ _) h)
  case set7E => exact .path (Path.finish (Path.refl.setBit _ _) h)
  case set7H => exact .path (Path.finish (Path.refl.setBit _ _) h)
  case set7L => exact .path (Path.finish (Path.refl.setBit _ _) h)
  case set7MemHL => exact .path (Path.finish (Path.refl.setBit _ _) h)
  case set7A => exact .path (Path.finish (Path.refl.setBit _ _) h)

end Sys2Proof.Machine
end

