-- ==== Sys2Proof/Laws/IoWindow.lean ====
section
/-! SUPPORT. The I/O window: which registers a write affects, and what else of the machine it keeps. -/

namespace Sys2Proof.Machine

/-- The region of an address of the I/O window. -/
theorem regionOf_io (n : Nat) (h : n < 0x80) : regionOf (BitVec.ofNat 16 (0xFF00 + n)) = .io n := by
  have e : (BitVec.ofNat 16 (0xFF00 + n)).toNat = 0xFF00 + n := by
    rw [BitVec.toNat_ofNat]
    omega
  have e' : 0xFF00 + n - 0xFF00 = n := Nat.add_sub_cancel_left ..
  unfold regionOf; simp only [e, e']
  split_ifs <;> first | omega | rfl

/-- A read of the I/O window is a read of its register (20_memory R75). -/
theorem memRead_io (s : State) (n : Nat) (h : n < 0x80) :
    s.memRead (BitVec.ofNat 16 (0xFF00 + n)) = s.ioRead (ioRegAt n) := by
  unfold State.memRead; rw [regionOf_io n h]

/-- A write to the I/O window is a write to its register (20_memory R75). -/
theorem memWrite_io (s : State) (n : Nat) (v : Byte) (h : n < 0x80) :
    s.memWrite (BitVec.ofNat 16 (0xFF00 + n)) v = s.ioWrite (ioRegAt n) v := by
  unfold State.memWrite; rw [regionOf_io n h]

/-- An address of the I/O window is 0xFF00 plus its offset. -/
theorem io_ne {a : Word} {off : Nat} (h : regionOf a = .io off) : a.toNat = 0xFF00 + off ∧ off < 0x80 := by
  unfold regionOf at h
  dsimp only at h
  repeat' split at h
  all_goals (simp at h; try omega)

/-- Two addresses of one offset are equal. -/
theorem region_io_inj {a w : Word} {off : Nat} (h : regionOf a = .io off) (h' : regionOf w = .io off) : a = w := by
  apply BitVec.eq_of_toNat_eq; rw [(io_ne h).1, (io_ne h').1]

/-- The offset of a register of the I/O window (20_memory R75), the converse of `ioRegAt`. -/
def ioOff : IoReg → Option Nat
  | .p1 => some 0x00
  | .sb => some 0x01
  | .sc => some 0x02
  | .div => some 0x04
  | .tima => some 0x05
  | .tma => some 0x06
  | .tac => some 0x07
  | .ifr => some 0x0F
  | .apu k => some (0x10 + k)
  | .lcdc => some 0x40
  | .stat => some 0x41
  | .scy => some 0x42
  | .scx => some 0x43
  | .ly => some 0x44
  | .lyc => some 0x45
  | .dma => some 0x46
  | .bgp => some 0x47
  | .obp0 => some 0x48
  | .obp1 => some 0x49
  | .wy => some 0x4A
  | .wx => some 0x4B
  | .boot => some 0x50
  | .unmapped => none

/-- `ioOff` inverts `ioRegAt`. -/
theorem ioOff_ioRegAt : ∀ o < 0x80, ioRegAt o = .unmapped ∨ ioOff (ioRegAt o) = some o := by decide +kernel

/-- The registers whose read value a write to a register may change (20_memory R78). -/
def IoReg.affects (r : IoReg) : List IoReg :=
  match r with
  | .p1 => [.p1, .ifr]
  | .lcdc => [.lcdc, .stat, .ly, .ifr]
  | .stat => [.stat, .ifr]
  | .lyc => [.lyc, .stat, .ifr]
  | .dma => [.dma]
  | .boot => []
  | .ly => []
  | .unmapped => []
  | r => [r]

theorem read_apu_other (s : State) (v : Byte) {i j : Nat} (h : j ≠ i) : (s.mem.apu.write i v).read j = s.mem.apu.read j :=
  Cells.read_write_other _ _ h

theorem joyCheck_io (s : State) (r : IoReg) (h : r ≠ .ifr) : (s.joypadCheck).ioRead r = s.ioRead r := by
  unfold State.joypadCheck; dsimp only
  split <;> cases r <;> first | rfl | (exact absurd rfl h)

theorem statLine_io (s : State) (r : IoReg) (h : r ≠ .ifr) : (s.updateStatLine).ioRead r = s.ioRead r := by
  unfold State.updateStatLine; dsimp only
  split <;> cases r <;> first | rfl | (exact absurd rfl h)

theorem restat_io (s : State) (r : IoReg) (h : r ≠ .ifr) : (s.restat).ioRead r = s.ioRead r := by
  unfold State.restat; split
  · exact statLine_io s r h
  · rfl

/-- A write to a register changes the read value of no register but those it affects. -/
theorem ioWrite_io (s : State) (q r : IoReg) (v : Byte) (h : r ∉ q.affects) : (s.ioWrite q v).ioRead r = s.ioRead r := by
  have hif : ∀ {l : List IoReg}, IoReg.ifr ∈ l → r ∉ l → r ≠ .ifr := by rintro l h1 h2 rfl; exact h2 h1
  cases q
  case p1 => 
    refine (joyCheck_io _ r (hif (by decide) h)).trans ?_
    cases r <;> first | rfl | (exact absurd (by decide) h)
  case lcdc =>
    simp only [State.ioWrite, State.writeLcdc]
    split
    · cases r <;> first | rfl | (exact absurd (by decide) h)
    · refine (statLine_io _ r (hif (by decide) h)).trans ?_
      cases r <;> first | rfl | (exact absurd (by decide) h)
    · cases r <;> first | rfl | (exact absurd (by decide) h)
    · cases r <;> first | rfl | (exact absurd (by decide) h)
  case stat =>
    refine (restat_io _ r (hif (by decide) h)).trans ?_
    cases r <;> first | rfl | (exact absurd (by decide) h)
  case lyc =>
    refine (restat_io _ r (hif (by decide) h)).trans ?_
    cases r <;> first | rfl | (exact absurd (by decide) h)
  case dma =>
    simp only [State.ioWrite, State.writeDma]
    obtain ⟨oam, e⟩ := dmaCopy_eq v 0 160 { s with ppu := { s.ppu with dma := v } }
    rw [e]
    cases r <;> first | rfl | (exact absurd (by decide) h)
  case apu i =>
    cases r
    case apu j => exact read_apu_other s v (by rintro rfl; exact h (by simp [IoReg.affects]))
    all_goals rfl
  all_goals (cases r <;> first | rfl | (exact absurd (by decide) h))

/-! What else of the machine an I/O write keeps. -/

theorem joypadCheck_arrays (s : State) : s.joypadCheck.mem = s.mem ∧ s.joypadCheck.ie = s.ie ∧ s.joypadCheck.bootMapped = s.bootMapped := by
  unfold State.joypadCheck; dsimp only; split <;> exact ⟨rfl, rfl, rfl⟩
theorem updateStatLine_arrays (s : State) : s.updateStatLine.mem = s.mem ∧ s.updateStatLine.ie = s.ie ∧ s.updateStatLine.bootMapped = s.bootMapped := by
  unfold State.updateStatLine; dsimp only; split <;> exact ⟨rfl, rfl, rfl⟩
theorem restat_arrays (s : State) : s.restat.mem = s.mem ∧ s.restat.ie = s.ie ∧ s.restat.bootMapped = s.bootMapped := by
  unfold State.restat; split
  · exact updateStatLine_arrays s
  · exact ⟨rfl, rfl, rfl⟩

theorem ioWrite_mem (s : State) (q : IoReg) (v : Byte) :
    let t := s.ioWrite q v
    t.mem.cart = s.mem.cart ∧ t.mem.vram = s.mem.vram ∧ t.mem.wram = s.mem.wram ∧ t.mem.hram = s.mem.hram ∧ t.ie = s.ie ∧
    t.cfg = s.cfg ∧
    (q ≠ .dma → t.mem.oam = s.mem.oam) ∧ (q ≠ .boot → t.bootMapped = s.bootMapped) := by
  cases q
  case p1 =>
    have := joypadCheck_arrays { s with joypad := { s.joypad with p1Sel := v.extractLsb' 4 2 } }
    dsimp only; refine ⟨?_, ?_, ?_, ?_, this.2.1, (keepsCpu_ioWrite s _ v).cfg, ?_, fun _ => this.2.2⟩ <;> (try intro _) <;> exact congrArg _ this.1
  case lcdc =>
    dsimp only; simp only [State.ioWrite, State.writeLcdc]; split
    · exact ⟨rfl, rfl, rfl, rfl, rfl, rfl, fun _ => rfl, fun _ => rfl⟩
    · have := updateStatLine_arrays { s with ppu := { ({ s.ppu with lcdc := v } : Ppu) with ly := 0, dot := 0, mode := .oamScan, winLine := 0 } }
      refine ⟨?_, ?_, ?_, ?_, this.2.1, (keepsCpu_updateStatLine _).cfg, ?_, fun _ => this.2.2⟩ <;> (try intro _) <;> exact congrArg _ this.1
    · exact ⟨rfl, rfl, rfl, rfl, rfl, rfl, fun _ => rfl, fun _ => rfl⟩
    · exact ⟨rfl, rfl, rfl, rfl, rfl, rfl, fun _ => rfl, fun _ => rfl⟩
  case stat =>
    have := restat_arrays { s with ppu := { s.ppu with statSel := v.extractLsb' 3 4 } }
    dsimp only; refine ⟨?_, ?_, ?_, ?_, this.2.1, (keepsCpu_ioWrite s _ v).cfg, ?_, fun _ => this.2.2⟩ <;> (try intro _) <;> exact congrArg _ this.1
  case lyc =>
    have := restat_arrays { s with ppu := { s.ppu with lyc := v } }
    dsimp only; refine ⟨?_, ?_, ?_, ?_, this.2.1, (keepsCpu_ioWrite s _ v).cfg, ?_, fun _ => this.2.2⟩ <;> (try intro _) <;> exact congrArg _ this.1
  case dma =>
    dsimp only; simp only [State.ioWrite, State.writeDma]
    obtain ⟨oam, e⟩ := dmaCopy_eq v 0 160 { s with ppu := { s.ppu with dma := v } }
    rw [e]; exact ⟨rfl, rfl, rfl, rfl, rfl, rfl, fun h => absurd rfl h, fun _ => rfl⟩
  case boot => exact ⟨rfl, rfl, rfl, rfl, rfl, rfl, fun _ => rfl, fun h => absurd rfl h⟩
  all_goals exact ⟨rfl, rfl, rfl, rfl, rfl, rfl, fun _ => rfl, fun _ => rfl⟩

end Sys2Proof.Machine
end

