-- ==== Sys2Proof/Laws/Operations.lean ====
section
/-! SUPPORT. One lemma per shared operation: flags and arithmetic as plain numbers, stores as a list of bus
writes. The statements cite these instead of unfolding the operations. -/

namespace Sys2Proof.Machine

variable (s : State)

/-- The packed and masked flags are the sum of their weights (10_state R24, R25). -/
theorem packFlags_mask (z n h c : Bool) : packFlags z n h c &&& 0xF0 = flagByte z n h c := by
  revert z n h c; decide

/-- A byte masked for F, from its four flags (10_state R25). -/
theorem mask_eq_flagByte (v : Byte) :
    v &&& 0xF0 = flagByte (v.getLsbD 7) (v.getLsbD 6) (v.getLsbD 5) (v.getLsbD 4) := by
  revert v; decide

/-- A flag update writes F alone. -/
theorem setFlags_eq (z n h c : Bool) :
    s.setFlags z n h c = { s with regs := { s.regs with f := flagByte z n h c } } := by
  unfold State.setFlags State.setF; rw [packFlags_mask]

/-- The sign extension of a byte as a number (00_scope R10). -/
theorem sext16_eq (e : Byte) :
    sext16 e = BitVec.ofNat 16 (e.toNat + (if e.toNat < 128 then 0 else 0xFF00)) := by
  revert e; decide

/-- The value of a pair of bytes. -/
theorem join_toNat (a b : Byte) : (join a b).toNat = a.toNat * 256 + b.toNat := by
  rw [join, BitVec.toNat_append, ← Nat.shiftLeft_add_eq_or_of_lt b.isLt, Nat.shiftLeft_eq]

/-- The address of the high page as a number (40_load R150). -/
theorem highPage_toNat (n : Byte) : (highPage n).toNat = 0xFF00 + n.toNat := by
  have := n.isLt
  simp [highPage]; omega

/-- The result and Z of a subtraction as a number (41_alu8 R191). -/
theorem sub8_value (a b : Byte) (c : Bool) :
    (sub8 a b c).value = BitVec.ofNat 8 ((a.toNat + 512 - b.toNat - c.toNat) % 256) ∧
      (sub8 a b c).z = ((a.toNat + 512 - b.toNat - c.toNat) % 256 == 0) := by
  have h1 : (sub8 a b c).value = BitVec.ofNat 8 ((a.toNat + 512 - b.toNat - c.toNat) % 256) := by
    apply BitVec.eq_of_toNat_eq
    have := b.isLt; have := a.isLt; have := c.toNat_le
    simp only [sub8, BitVec.toNat_ofInt, BitVec.toNat_ofNat]; omega
  refine ⟨h1, ?_⟩
  have h2 : (sub8 a b c).z = ((sub8 a b c).value == 0) := rfl
  rw [h2, h1, Bool.eq_iff_iff, beq_iff_eq, beq_iff_eq]
  constructor
  · intro h; have := congrArg BitVec.toNat h; simpa using this
  · intro h; rw [h]; rfl

/-- H of INC and DEC on a byte (41_alu8 R216, R218). -/
theorem inc8_half (v : Byte) : (v.extractLsb' 0 4 == 0xF#4) = (v.toNat % 16 == 15) := by revert v; decide
theorem dec8_half (v : Byte) : (v.extractLsb' 0 4 == 0#4) = (v.toNat % 16 == 0) := by revert v; decide

/-- Bits of RES and SET (43 R273, R275). -/
theorem resetBit_bits : ∀ (v : Byte) (b j : Fin 8),
    (v &&& ~~~(1#8 <<< b.val)).getLsbD j.val = if j.val = b.val then false else v.getLsbD j.val := by
  decide +kernel
theorem setBit_bits : ∀ (v : Byte) (b j : Fin 8),
    (v ||| (1#8 <<< b.val)).getLsbD j.val = if j.val = b.val then true else v.getLsbD j.val := by
  decide +kernel

/-- A register change that leaves control state and memory alone is a `RegsOnly` completion. -/
theorem regsOnly_of {i : Instr} {n : Nat} {r : Regs}
    (h : exec i s = .next { s with regs := r, cycles := n }) : RegsOnly i s n r :=
  ⟨_, h, rfl, fun _ => rfl⟩

/-- A conditional transfer that is taken, and one that is not. -/
theorem finishIf_true {b : Bool} {n m : Nat} {t u : State} (h : b = true) :
    finishIf b n m t u = finish n t := by subst h; rfl
theorem finishIf_false {b : Bool} {n m : Nat} {t u : State} (h : b = false) :
    finishIf b n m t u = finish m u := by subst h; rfl

/-- Bus writes never change the CPU's own fields. -/
theorem keepsCpu_storeAll (ws : List (Word × Byte)) : KeepsCpu s (storeAll s ws) := by
  induction ws generalizing s with
  | nil => exact KeepsCpu.refl s
  | cons p rest ih => exact (keepsCpu_memWrite s _ _).trans (ih _)

/-- Bus writes commute with a change of the register file. -/
theorem storeAll_withRegs (ws : List (Word × Byte)) (r : Regs) :
    storeAll { s with regs := r } ws = { storeAll s ws with regs := r } := by
  induction ws generalizing s with
  | nil => rfl
  | cons p rest ih => simp only [storeAll]; rw [memWrite_withRegs, ih]

/-- `Push16` is two bus writes, the high byte first, and the SP update (40_load R172). -/
theorem push16_eq (v : Word) :
    s.push16 v =
      { storeAll s [(s.regs.sp - 1, hiByte v), (s.regs.sp - 2, loByte v)] with
        regs := { s.regs with sp := s.regs.sp - 2 } } := by
  have h1 := memWrite_withRegs s { s.regs with sp := s.regs.sp - 1 } (s.regs.sp - 1) (hiByte v)
  unfold State.push16 State.setSp; dsimp only
  rw [h1]
  exact memWrite_withRegs (s.memWrite (s.regs.sp - 1) (hiByte v)) { s.regs with sp := s.regs.sp - 2 }
    (s.regs.sp - 2) (loByte v)

/-- A finish after bus writes alone. -/
theorem finish_storeAll (n : Nat) (ws : List (Word × Byte)) :
    finish n (storeAll s ws) = .next { storeAll s ws with regs := s.regs, cycles := n } := by
  rw [← (keepsCpu_storeAll s ws).regs]; rfl

end Sys2Proof.Machine
end

