-- ==== Sys2Proof/Laws/PerInstr.lean ====
section
/-! SUPPORT. Per instruction: its encoding is as long as the opcode map says of its first byte, 1 to 3 bytes. -/

open Sys2Proof

/-- An instruction is well formed, its encoding has 1 to 3 bytes, and the opcode map gives its first byte that
length (30_encoding R120). -/
def Sys2Proof.Laws.Encoding.Statement (i : Instr) : Prop :=
  i.wellFormed = true ∧ 1 ≤ (encode i).length ∧ (encode i).length ≤ 3 ∧
    (opForm ((encode i).headD 0)).length = (encode i).length

namespace Sys2Proof.Laws.Encoding

/-- The four parts, each by evaluation of the tables at the constructor. -/
theorem of_eval {i : Instr} (n : Nat) (h1 : (encode i).length = n + 1) (h2 : n ≤ 2)
    (h3 : (opForm ((encode i).headD 0)).length = (encode i).length) : Statement i :=
  ⟨rfl, by omega, by omega, h3⟩

theorem nop : Statement .nop := of_eval 0 rfl (by decide) rfl
theorem ldBCNN (nn : Word) : Statement (.ldBCNN nn) := of_eval 2 rfl (by decide)
  (congrArg OpForm.length (show opForm 0x01 = .opNN .ldBCNN from rfl))
theorem ldMemBCA : Statement .ldMemBCA := of_eval 0 rfl (by decide) rfl
theorem incBC : Statement .incBC := of_eval 0 rfl (by decide) rfl
theorem incB : Statement .incB := of_eval 0 rfl (by decide) rfl
theorem decB : Statement .decB := of_eval 0 rfl (by decide) rfl
theorem ldBN (n : Byte) : Statement (.ldBN n) := of_eval 1 rfl (by decide)
  (congrArg OpForm.length (show opForm 0x06 = .opN .ldBN from rfl))
theorem rlca : Statement .rlca := of_eval 0 rfl (by decide) rfl
theorem ldMemNNSP (nn : Word) : Statement (.ldMemNNSP nn) := of_eval 2 rfl (by decide)
  (congrArg OpForm.length (show opForm 0x08 = .opNN .ldMemNNSP from rfl))
theorem addHLBC : Statement .addHLBC := of_eval 0 rfl (by decide) rfl
theorem ldAMemBC : Statement .ldAMemBC := of_eval 0 rfl (by decide) rfl
theorem decBC : Statement .decBC := of_eval 0 rfl (by decide) rfl
theorem incC : Statement .incC := of_eval 0 rfl (by decide) rfl
theorem decC : Statement .decC := of_eval 0 rfl (by decide) rfl
theorem ldCN (n : Byte) : Statement (.ldCN n) := of_eval 1 rfl (by decide)
  (congrArg OpForm.length (show opForm 0x0E = .opN .ldCN from rfl))
theorem rrca : Statement .rrca := of_eval 0 rfl (by decide) rfl
theorem stop (n : Byte) : Statement (.stop n) := of_eval 1 rfl (by decide)
  (congrArg OpForm.length (show opForm 0x10 = .opN .stop from rfl))
theorem ldDENN (nn : Word) : Statement (.ldDENN nn) := of_eval 2 rfl (by decide)
  (congrArg OpForm.length (show opForm 0x11 = .opNN .ldDENN from rfl))
theorem ldMemDEA : Statement .ldMemDEA := of_eval 0 rfl (by decide) rfl
theorem incDE : Statement .incDE := of_eval 0 rfl (by decide) rfl
theorem incD : Statement .incD := of_eval 0 rfl (by decide) rfl
theorem decD : Statement .decD := of_eval 0 rfl (by decide) rfl
theorem ldDN (n : Byte) : Statement (.ldDN n) := of_eval 1 rfl (by decide)
  (congrArg OpForm.length (show opForm 0x16 = .opN .ldDN from rfl))
theorem rla : Statement .rla := of_eval 0 rfl (by decide) rfl
theorem jrE8 (e : Byte) : Statement (.jrE8 e) := of_eval 1 rfl (by decide)
  (congrArg OpForm.length (show opForm 0x18 = .opE .jrE8 from rfl))
theorem addHLDE : Statement .addHLDE := of_eval 0 rfl (by decide) rfl
theorem ldAMemDE : Statement .ldAMemDE := of_eval 0 rfl (by decide) rfl
theorem decDE : Statement .decDE := of_eval 0 rfl (by decide) rfl
theorem incE : Statement .incE := of_eval 0 rfl (by decide) rfl
theorem decE : Statement .decE := of_eval 0 rfl (by decide) rfl
theorem ldEN (n : Byte) : Statement (.ldEN n) := of_eval 1 rfl (by decide)
  (congrArg OpForm.length (show opForm 0x1E = .opN .ldEN from rfl))
theorem rra : Statement .rra := of_eval 0 rfl (by decide) rfl
theorem jrNZE8 (e : Byte) : Statement (.jrNZE8 e) := of_eval 1 rfl (by decide)
  (congrArg OpForm.length (show opForm 0x20 = .opE .jrNZE8 from rfl))
theorem ldHLNN (nn : Word) : Statement (.ldHLNN nn) := of_eval 2 rfl (by decide)
  (congrArg OpForm.length (show opForm 0x21 = .opNN .ldHLNN from rfl))
theorem ldMemHLIncA : Statement .ldMemHLIncA := of_eval 0 rfl (by decide) rfl
theorem incHL : Statement .incHL := of_eval 0 rfl (by decide) rfl
theorem incH : Statement .incH := of_eval 0 rfl (by decide) rfl
theorem decH : Statement .decH := of_eval 0 rfl (by decide) rfl
theorem ldHN (n : Byte) : Statement (.ldHN n) := of_eval 1 rfl (by decide)
  (congrArg OpForm.length (show opForm 0x26 = .opN .ldHN from rfl))
theorem daa : Statement .daa := of_eval 0 rfl (by decide) rfl
theorem jrZE8 (e : Byte) : Statement (.jrZE8 e) := of_eval 1 rfl (by decide)
  (congrArg OpForm.length (show opForm 0x28 = .opE .jrZE8 from rfl))
theorem addHLHL : Statement .addHLHL := of_eval 0 rfl (by decide) rfl
theorem ldAMemHLInc : Statement .ldAMemHLInc := of_eval 0 rfl (by decide) rfl
theorem decHL : Statement .decHL := of_eval 0 rfl (by decide) rfl
theorem incL : Statement .incL := of_eval 0 rfl (by decide) rfl
theorem decL : Statement .decL := of_eval 0 rfl (by decide) rfl
theorem ldLN (n : Byte) : Statement (.ldLN n) := of_eval 1 rfl (by decide)
  (congrArg OpForm.length (show opForm 0x2E = .opN .ldLN from rfl))
theorem cpl : Statement .cpl := of_eval 0 rfl (by decide) rfl
theorem jrNCE8 (e : Byte) : Statement (.jrNCE8 e) := of_eval 1 rfl (by decide)
  (congrArg OpForm.length (show opForm 0x30 = .opE .jrNCE8 from rfl))
theorem ldSPNN (nn : Word) : Statement (.ldSPNN nn) := of_eval 2 rfl (by decide)
  (congrArg OpForm.length (show opForm 0x31 = .opNN .ldSPNN from rfl))
theorem ldMemHLDecA : Statement .ldMemHLDecA := of_eval 0 rfl (by decide) rfl
theorem incSP : Statement .incSP := of_eval 0 rfl (by decide) rfl
theorem incMemHL : Statement .incMemHL := of_eval 0 rfl (by decide) rfl
theorem decMemHL : Statement .decMemHL := of_eval 0 rfl (by decide) rfl
theorem ldMemHLN (n : Byte) : Statement (.ldMemHLN n) := of_eval 1 rfl (by decide)
  (congrArg OpForm.length (show opForm 0x36 = .opN .ldMemHLN from rfl))
theorem scf : Statement .scf := of_eval 0 rfl (by decide) rfl
theorem jrCE8 (e : Byte) : Statement (.jrCE8 e) := of_eval 1 rfl (by decide)
  (congrArg OpForm.length (show opForm 0x38 = .opE .jrCE8 from rfl))
theorem addHLSP : Statement .addHLSP := of_eval 0 rfl (by decide) rfl
theorem ldAMemHLDec : Statement .ldAMemHLDec := of_eval 0 rfl (by decide) rfl
theorem decSP : Statement .decSP := of_eval 0 rfl (by decide) rfl
theorem incA : Statement .incA := of_eval 0 rfl (by decide) rfl
theorem decA : Statement .decA := of_eval 0 rfl (by decide) rfl
theorem ldAN (n : Byte) : Statement (.ldAN n) := of_eval 1 rfl (by decide)
  (congrArg OpForm.length (show opForm 0x3E = .opN .ldAN from rfl))
theorem ccf : Statement .ccf := of_eval 0 rfl (by decide) rfl
theorem ldBB : Statement .ldBB := of_eval 0 rfl (by decide) rfl
theorem ldBC : Statement .ldBC := of_eval 0 rfl (by decide) rfl
theorem ldBD : Statement .ldBD := of_eval 0 rfl (by decide) rfl
theorem ldBE : Statement .ldBE := of_eval 0 rfl (by decide) rfl
theorem ldBH : Statement .ldBH := of_eval 0 rfl (by decide) rfl
theorem ldBL : Statement .ldBL := of_eval 0 rfl (by decide) rfl
theorem ldBMemHL : Statement .ldBMemHL := of_eval 0 rfl (by decide) rfl
theorem ldBA : Statement .ldBA := of_eval 0 rfl (by decide) rfl
theorem ldCB : Statement .ldCB := of_eval 0 rfl (by decide) rfl
theorem ldCC : Statement .ldCC := of_eval 0 rfl (by decide) rfl
theorem ldCD : Statement .ldCD := of_eval 0 rfl (by decide) rfl
theorem ldCE : Statement .ldCE := of_eval 0 rfl (by decide) rfl
theorem ldCH : Statement .ldCH := of_eval 0 rfl (by decide) rfl
theorem ldCL : Statement .ldCL := of_eval 0 rfl (by decide) rfl
theorem ldCMemHL : Statement .ldCMemHL := of_eval 0 rfl (by decide) rfl
theorem ldCA : Statement .ldCA := of_eval 0 rfl (by decide) rfl
theorem ldDB : Statement .ldDB := of_eval 0 rfl (by decide) rfl
theorem ldDC : Statement .ldDC := of_eval 0 rfl (by decide) rfl
theorem ldDD : Statement .ldDD := of_eval 0 rfl (by decide) rfl
theorem ldDE : Statement .ldDE := of_eval 0 rfl (by decide) rfl
theorem ldDH : Statement .ldDH := of_eval 0 rfl (by decide) rfl
theorem ldDL : Statement .ldDL := of_eval 0 rfl (by decide) rfl
theorem ldDMemHL : Statement .ldDMemHL := of_eval 0 rfl (by decide) rfl
theorem ldDA : Statement .ldDA := of_eval 0 rfl (by decide) rfl
theorem ldEB : Statement .ldEB := of_eval 0 rfl (by decide) rfl
theorem ldEC : Statement .ldEC := of_eval 0 rfl (by decide) rfl
theorem ldED : Statement .ldED := of_eval 0 rfl (by decide) rfl
theorem ldEE : Statement .ldEE := of_eval 0 rfl (by decide) rfl
theorem ldEH : Statement .ldEH := of_eval 0 rfl (by decide) rfl
theorem ldEL : Statement .ldEL := of_eval 0 rfl (by decide) rfl
theorem ldEMemHL : Statement .ldEMemHL := of_eval 0 rfl (by decide) rfl
theorem ldEA : Statement .ldEA := of_eval 0 rfl (by decide) rfl
theorem ldHB : Statement .ldHB := of_eval 0 rfl (by decide) rfl
theorem ldHC : Statement .ldHC := of_eval 0 rfl (by decide) rfl
theorem ldHD : Statement .ldHD := of_eval 0 rfl (by decide) rfl
theorem ldHE : Statement .ldHE := of_eval 0 rfl (by decide) rfl
theorem ldHH : Statement .ldHH := of_eval 0 rfl (by decide) rfl
theorem ldHL : Statement .ldHL := of_eval 0 rfl (by decide) rfl
theorem ldHMemHL : Statement .ldHMemHL := of_eval 0 rfl (by decide) rfl
theorem ldHA : Statement .ldHA := of_eval 0 rfl (by decide) rfl
theorem ldLB : Statement .ldLB := of_eval 0 rfl (by decide) rfl
theorem ldLC : Statement .ldLC := of_eval 0 rfl (by decide) rfl
theorem ldLD : Statement .ldLD := of_eval 0 rfl (by decide) rfl
theorem ldLE : Statement .ldLE := of_eval 0 rfl (by decide) rfl
theorem ldLH : Statement .ldLH := of_eval 0 rfl (by decide) rfl
theorem ldLL : Statement .ldLL := of_eval 0 rfl (by decide) rfl
theorem ldLMemHL : Statement .ldLMemHL := of_eval 0 rfl (by decide) rfl
theorem ldLA : Statement .ldLA := of_eval 0 rfl (by decide) rfl
theorem ldMemHLB : Statement .ldMemHLB := of_eval 0 rfl (by decide) rfl
theorem ldMemHLC : Statement .ldMemHLC := of_eval 0 rfl (by decide) rfl
theorem ldMemHLD : Statement .ldMemHLD := of_eval 0 rfl (by decide) rfl
theorem ldMemHLE : Statement .ldMemHLE := of_eval 0 rfl (by decide) rfl
theorem ldMemHLH : Statement .ldMemHLH := of_eval 0 rfl (by decide) rfl
theorem ldMemHLL : Statement .ldMemHLL := of_eval 0 rfl (by decide) rfl
theorem halt : Statement .halt := of_eval 0 rfl (by decide) rfl
theorem ldMemHLA : Statement .ldMemHLA := of_eval 0 rfl (by decide) rfl
theorem ldAB : Statement .ldAB := of_eval 0 rfl (by decide) rfl
theorem ldAC : Statement .ldAC := of_eval 0 rfl (by decide) rfl
theorem ldAD : Statement .ldAD := of_eval 0 rfl (by decide) rfl
theorem ldAE : Statement .ldAE := of_eval 0 rfl (by decide) rfl
theorem ldAH : Statement .ldAH := of_eval 0 rfl (by decide) rfl
theorem ldAL : Statement .ldAL := of_eval 0 rfl (by decide) rfl
theorem ldAMemHL : Statement .ldAMemHL := of_eval 0 rfl (by decide) rfl
theorem ldAA : Statement .ldAA := of_eval 0 rfl (by decide) rfl
theorem addAB : Statement .addAB := of_eval 0 rfl (by decide) rfl
theorem addAC : Statement .addAC := of_eval 0 rfl (by decide) rfl
theorem addAD : Statement .addAD := of_eval 0 rfl (by decide) rfl
theorem addAE : Statement .addAE := of_eval 0 rfl (by decide) rfl
theorem addAH : Statement .addAH := of_eval 0 rfl (by decide) rfl
theorem addAL : Statement .addAL := of_eval 0 rfl (by decide) rfl
theorem addAMemHL : Statement .addAMemHL := of_eval 0 rfl (by decide) rfl
theorem addAA : Statement .addAA := of_eval 0 rfl (by decide) rfl
theorem adcAB : Statement .adcAB := of_eval 0 rfl (by decide) rfl
theorem adcAC : Statement .adcAC := of_eval 0 rfl (by decide) rfl
theorem adcAD : Statement .adcAD := of_eval 0 rfl (by decide) rfl
theorem adcAE : Statement .adcAE := of_eval 0 rfl (by decide) rfl
theorem adcAH : Statement .adcAH := of_eval 0 rfl (by decide) rfl
theorem adcAL : Statement .adcAL := of_eval 0 rfl (by decide) rfl
theorem adcAMemHL : Statement .adcAMemHL := of_eval 0 rfl (by decide) rfl
theorem adcAA : Statement .adcAA := of_eval 0 rfl (by decide) rfl
theorem subB : Statement .subB := of_eval 0 rfl (by decide) rfl
theorem subC : Statement .subC := of_eval 0 rfl (by decide) rfl
theorem subD : Statement .subD := of_eval 0 rfl (by decide) rfl
theorem subE : Statement .subE := of_eval 0 rfl (by decide) rfl
theorem subH : Statement .subH := of_eval 0 rfl (by decide) rfl
theorem subL : Statement .subL := of_eval 0 rfl (by decide) rfl
theorem subMemHL : Statement .subMemHL := of_eval 0 rfl (by decide) rfl
theorem subA : Statement .subA := of_eval 0 rfl (by decide) rfl
theorem sbcAB : Statement .sbcAB := of_eval 0 rfl (by decide) rfl
theorem sbcAC : Statement .sbcAC := of_eval 0 rfl (by decide) rfl
theorem sbcAD : Statement .sbcAD := of_eval 0 rfl (by decide) rfl
theorem sbcAE : Statement .sbcAE := of_eval 0 rfl (by decide) rfl
theorem sbcAH : Statement .sbcAH := of_eval 0 rfl (by decide) rfl
theorem sbcAL : Statement .sbcAL := of_eval 0 rfl (by decide) rfl
theorem sbcAMemHL : Statement .sbcAMemHL := of_eval 0 rfl (by decide) rfl
theorem sbcAA : Statement .sbcAA := of_eval 0 rfl (by decide) rfl
theorem andB : Statement .andB := of_eval 0 rfl (by decide) rfl
theorem andC : Statement .andC := of_eval 0 rfl (by decide) rfl
theorem andD : Statement .andD := of_eval 0 rfl (by decide) rfl
theorem andE : Statement .andE := of_eval 0 rfl (by decide) rfl
theorem andH : Statement .andH := of_eval 0 rfl (by decide) rfl
theorem andL : Statement .andL := of_eval 0 rfl (by decide) rfl
theorem andMemHL : Statement .andMemHL := of_eval 0 rfl (by decide) rfl
theorem andA : Statement .andA := of_eval 0 rfl (by decide) rfl
theorem xorB : Statement .xorB := of_eval 0 rfl (by decide) rfl
theorem xorC : Statement .xorC := of_eval 0 rfl (by decide) rfl
theorem xorD : Statement .xorD := of_eval 0 rfl (by decide) rfl
theorem xorE : Statement .xorE := of_eval 0 rfl (by decide) rfl
theorem xorH : Statement .xorH := of_eval 0 rfl (by decide) rfl
theorem xorL : Statement .xorL := of_eval 0 rfl (by decide) rfl
theorem xorMemHL : Statement .xorMemHL := of_eval 0 rfl (by decide) rfl
theorem xorA : Statement .xorA := of_eval 0 rfl (by decide) rfl
theorem orB : Statement .orB := of_eval 0 rfl (by decide) rfl
theorem orC : Statement .orC := of_eval 0 rfl (by decide) rfl
theorem orD : Statement .orD := of_eval 0 rfl (by decide) rfl
theorem orE : Statement .orE := of_eval 0 rfl (by decide) rfl
theorem orH : Statement .orH := of_eval 0 rfl (by decide) rfl
theorem orL : Statement .orL := of_eval 0 rfl (by decide) rfl
theorem orMemHL : Statement .orMemHL := of_eval 0 rfl (by decide) rfl
theorem orA : Statement .orA := of_eval 0 rfl (by decide) rfl
theorem cpB : Statement .cpB := of_eval 0 rfl (by decide) rfl
theorem cpC : Statement .cpC := of_eval 0 rfl (by decide) rfl
theorem cpD : Statement .cpD := of_eval 0 rfl (by decide) rfl
theorem cpE : Statement .cpE := of_eval 0 rfl (by decide) rfl
theorem cpH : Statement .cpH := of_eval 0 rfl (by decide) rfl
theorem cpL : Statement .cpL := of_eval 0 rfl (by decide) rfl
theorem cpMemHL : Statement .cpMemHL := of_eval 0 rfl (by decide) rfl
theorem cpA : Statement .cpA := of_eval 0 rfl (by decide) rfl
theorem retNZ : Statement .retNZ := of_eval 0 rfl (by decide) rfl
theorem popBC : Statement .popBC := of_eval 0 rfl (by decide) rfl
theorem jpNZNN (nn : Word) : Statement (.jpNZNN nn) := of_eval 2 rfl (by decide)
  (congrArg OpForm.length (show opForm 0xC2 = .opNN .jpNZNN from rfl))
theorem jpNN (nn : Word) : Statement (.jpNN nn) := of_eval 2 rfl (by decide)
  (congrArg OpForm.length (show opForm 0xC3 = .opNN .jpNN from rfl))
theorem callNZNN (nn : Word) : Statement (.callNZNN nn) := of_eval 2 rfl (by decide)
  (congrArg OpForm.length (show opForm 0xC4 = .opNN .callNZNN from rfl))
theorem pushBC : Statement .pushBC := of_eval 0 rfl (by decide) rfl
theorem addAN (n : Byte) : Statement (.addAN n) := of_eval 1 rfl (by decide)
  (congrArg OpForm.length (show opForm 0xC6 = .opN .addAN from rfl))
theorem rst00 : Statement .rst00 := of_eval 0 rfl (by decide) rfl
theorem retZ : Statement .retZ := of_eval 0 rfl (by decide) rfl
theorem ret : Statement .ret := of_eval 0 rfl (by decide) rfl
theorem jpZNN (nn : Word) : Statement (.jpZNN nn) := of_eval 2 rfl (by decide)
  (congrArg OpForm.length (show opForm 0xCA = .opNN .jpZNN from rfl))
theorem callZNN (nn : Word) : Statement (.callZNN nn) := of_eval 2 rfl (by decide)
  (congrArg OpForm.length (show opForm 0xCC = .opNN .callZNN from rfl))
theorem callNN (nn : Word) : Statement (.callNN nn) := of_eval 2 rfl (by decide)
  (congrArg OpForm.length (show opForm 0xCD = .opNN .callNN from rfl))
theorem adcAN (n : Byte) : Statement (.adcAN n) := of_eval 1 rfl (by decide)
  (congrArg OpForm.length (show opForm 0xCE = .opN .adcAN from rfl))
theorem rst08 : Statement .rst08 := of_eval 0 rfl (by decide) rfl
theorem retNC : Statement .retNC := of_eval 0 rfl (by decide) rfl
theorem popDE : Statement .popDE := of_eval 0 rfl (by decide) rfl
theorem jpNCNN (nn : Word) : Statement (.jpNCNN nn) := of_eval 2 rfl (by decide)
  (congrArg OpForm.length (show opForm 0xD2 = .opNN .jpNCNN from rfl))
theorem callNCNN (nn : Word) : Statement (.callNCNN nn) := of_eval 2 rfl (by decide)
  (congrArg OpForm.length (show opForm 0xD4 = .opNN .callNCNN from rfl))
theorem pushDE : Statement .pushDE := of_eval 0 rfl (by decide) rfl
theorem subN (n : Byte) : Statement (.subN n) := of_eval 1 rfl (by decide)
  (congrArg OpForm.length (show opForm 0xD6 = .opN .subN from rfl))
theorem rst10 : Statement .rst10 := of_eval 0 rfl (by decide) rfl
theorem retC : Statement .retC := of_eval 0 rfl (by decide) rfl
theorem reti : Statement .reti := of_eval 0 rfl (by decide) rfl
theorem jpCNN (nn : Word) : Statement (.jpCNN nn) := of_eval 2 rfl (by decide)
  (congrArg OpForm.length (show opForm 0xDA = .opNN .jpCNN from rfl))
theorem callCNN (nn : Word) : Statement (.callCNN nn) := of_eval 2 rfl (by decide)
  (congrArg OpForm.length (show opForm 0xDC = .opNN .callCNN from rfl))
theorem sbcAN (n : Byte) : Statement (.sbcAN n) := of_eval 1 rfl (by decide)
  (congrArg OpForm.length (show opForm 0xDE = .opN .sbcAN from rfl))
theorem rst18 : Statement .rst18 := of_eval 0 rfl (by decide) rfl
theorem ldhMemNA (n : Byte) : Statement (.ldhMemNA n) := of_eval 1 rfl (by decide)
  (congrArg OpForm.length (show opForm 0xE0 = .opN .ldhMemNA from rfl))
theorem popHL : Statement .popHL := of_eval 0 rfl (by decide) rfl
theorem ldhMemCA : Statement .ldhMemCA := of_eval 0 rfl (by decide) rfl
theorem pushHL : Statement .pushHL := of_eval 0 rfl (by decide) rfl
theorem andN (n : Byte) : Statement (.andN n) := of_eval 1 rfl (by decide)
  (congrArg OpForm.length (show opForm 0xE6 = .opN .andN from rfl))
theorem rst20 : Statement .rst20 := of_eval 0 rfl (by decide) rfl
theorem addSPE8 (e : Byte) : Statement (.addSPE8 e) := of_eval 1 rfl (by decide)
  (congrArg OpForm.length (show opForm 0xE8 = .opE .addSPE8 from rfl))
theorem jpHL : Statement .jpHL := of_eval 0 rfl (by decide) rfl
theorem ldMemNNA (nn : Word) : Statement (.ldMemNNA nn) := of_eval 2 rfl (by decide)
  (congrArg OpForm.length (show opForm 0xEA = .opNN .ldMemNNA from rfl))
theorem xorN (n : Byte) : Statement (.xorN n) := of_eval 1 rfl (by decide)
  (congrArg OpForm.length (show opForm 0xEE = .opN .xorN from rfl))
theorem rst28 : Statement .rst28 := of_eval 0 rfl (by decide) rfl
theorem ldhAMemN (n : Byte) : Statement (.ldhAMemN n) := of_eval 1 rfl (by decide)
  (congrArg OpForm.length (show opForm 0xF0 = .opN .ldhAMemN from rfl))
theorem popAF : Statement .popAF := of_eval 0 rfl (by decide) rfl
theorem ldhAMemC : Statement .ldhAMemC := of_eval 0 rfl (by decide) rfl
theorem di : Statement .di := of_eval 0 rfl (by decide) rfl
theorem pushAF : Statement .pushAF := of_eval 0 rfl (by decide) rfl
theorem orN (n : Byte) : Statement (.orN n) := of_eval 1 rfl (by decide)
  (congrArg OpForm.length (show opForm 0xF6 = .opN .orN from rfl))
theorem rst30 : Statement .rst30 := of_eval 0 rfl (by decide) rfl
theorem ldHLSPE (e : Byte) : Statement (.ldHLSPE e) := of_eval 1 rfl (by decide)
  (congrArg OpForm.length (show opForm 0xF8 = .opE .ldHLSPE from rfl))
theorem ldSPHL : Statement .ldSPHL := of_eval 0 rfl (by decide) rfl
theorem ldAMemNN (nn : Word) : Statement (.ldAMemNN nn) := of_eval 2 rfl (by decide)
  (congrArg OpForm.length (show opForm 0xFA = .opNN .ldAMemNN from rfl))
theorem ei : Statement .ei := of_eval 0 rfl (by decide) rfl
theorem cpN (n : Byte) : Statement (.cpN n) := of_eval 1 rfl (by decide)
  (congrArg OpForm.length (show opForm 0xFE = .opN .cpN from rfl))
theorem rst38 : Statement .rst38 := of_eval 0 rfl (by decide) rfl
theorem rlcB : Statement .rlcB := of_eval 1 rfl (by decide) rfl
theorem rlcC : Statement .rlcC := of_eval 1 rfl (by decide) rfl
theorem rlcD : Statement .rlcD := of_eval 1 rfl (by decide) rfl
theorem rlcE : Statement .rlcE := of_eval 1 rfl (by decide) rfl
theorem rlcH : Statement .rlcH := of_eval 1 rfl (by decide) rfl
theorem rlcL : Statement .rlcL := of_eval 1 rfl (by decide) rfl
theorem rlcMemHL : Statement .rlcMemHL := of_eval 1 rfl (by decide) rfl
theorem rlcA : Statement .rlcA := of_eval 1 rfl (by decide) rfl
theorem rrcB : Statement .rrcB := of_eval 1 rfl (by decide) rfl
theorem rrcC : Statement .rrcC := of_eval 1 rfl (by decide) rfl
theorem rrcD : Statement .rrcD := of_eval 1 rfl (by decide) rfl
theorem rrcE : Statement .rrcE := of_eval 1 rfl (by decide) rfl
theorem rrcH : Statement .rrcH := of_eval 1 rfl (by decide) rfl
theorem rrcL : Statement .rrcL := of_eval 1 rfl (by decide) rfl
theorem rrcMemHL : Statement .rrcMemHL := of_eval 1 rfl (by decide) rfl
theorem rrcA : Statement .rrcA := of_eval 1 rfl (by decide) rfl
theorem rlB : Statement .rlB := of_eval 1 rfl (by decide) rfl
theorem rlC : Statement .rlC := of_eval 1 rfl (by decide) rfl
theorem rlD : Statement .rlD := of_eval 1 rfl (by decide) rfl
theorem rlE : Statement .rlE := of_eval 1 rfl (by decide) rfl
theorem rlH : Statement .rlH := of_eval 1 rfl (by decide) rfl
theorem rlL : Statement .rlL := of_eval 1 rfl (by decide) rfl
theorem rlMemHL : Statement .rlMemHL := of_eval 1 rfl (by decide) rfl
theorem rlA : Statement .rlA := of_eval 1 rfl (by decide) rfl
theorem rrB : Statement .rrB := of_eval 1 rfl (by decide) rfl
theorem rrC : Statement .rrC := of_eval 1 rfl (by decide) rfl
theorem rrD : Statement .rrD := of_eval 1 rfl (by decide) rfl
theorem rrE : Statement .rrE := of_eval 1 rfl (by decide) rfl
theorem rrH : Statement .rrH := of_eval 1 rfl (by decide) rfl
theorem rrL : Statement .rrL := of_eval 1 rfl (by decide) rfl
theorem rrMemHL : Statement .rrMemHL := of_eval 1 rfl (by decide) rfl
theorem rrA : Statement .rrA := of_eval 1 rfl (by decide) rfl
theorem slaB : Statement .slaB := of_eval 1 rfl (by decide) rfl
theorem slaC : Statement .slaC := of_eval 1 rfl (by decide) rfl
theorem slaD : Statement .slaD := of_eval 1 rfl (by decide) rfl
theorem slaE : Statement .slaE := of_eval 1 rfl (by decide) rfl
theorem slaH : Statement .slaH := of_eval 1 rfl (by decide) rfl
theorem slaL : Statement .slaL := of_eval 1 rfl (by decide) rfl
theorem slaMemHL : Statement .slaMemHL := of_eval 1 rfl (by decide) rfl
theorem slaA : Statement .slaA := of_eval 1 rfl (by decide) rfl
theorem sraB : Statement .sraB := of_eval 1 rfl (by decide) rfl
theorem sraC : Statement .sraC := of_eval 1 rfl (by decide) rfl
theorem sraD : Statement .sraD := of_eval 1 rfl (by decide) rfl
theorem sraE : Statement .sraE := of_eval 1 rfl (by decide) rfl
theorem sraH : Statement .sraH := of_eval 1 rfl (by decide) rfl
theorem sraL : Statement .sraL := of_eval 1 rfl (by decide) rfl
theorem sraMemHL : Statement .sraMemHL := of_eval 1 rfl (by decide) rfl
theorem sraA : Statement .sraA := of_eval 1 rfl (by decide) rfl
theorem swapB : Statement .swapB := of_eval 1 rfl (by decide) rfl
theorem swapC : Statement .swapC := of_eval 1 rfl (by decide) rfl
theorem swapD : Statement .swapD := of_eval 1 rfl (by decide) rfl
theorem swapE : Statement .swapE := of_eval 1 rfl (by decide) rfl
theorem swapH : Statement .swapH := of_eval 1 rfl (by decide) rfl
theorem swapL : Statement .swapL := of_eval 1 rfl (by decide) rfl
theorem swapMemHL : Statement .swapMemHL := of_eval 1 rfl (by decide) rfl
theorem swapA : Statement .swapA := of_eval 1 rfl (by decide) rfl
theorem srlB : Statement .srlB := of_eval 1 rfl (by decide) rfl
theorem srlC : Statement .srlC := of_eval 1 rfl (by decide) rfl
theorem srlD : Statement .srlD := of_eval 1 rfl (by decide) rfl
theorem srlE : Statement .srlE := of_eval 1 rfl (by decide) rfl
theorem srlH : Statement .srlH := of_eval 1 rfl (by decide) rfl
theorem srlL : Statement .srlL := of_eval 1 rfl (by decide) rfl
theorem srlMemHL : Statement .srlMemHL := of_eval 1 rfl (by decide) rfl
theorem srlA : Statement .srlA := of_eval 1 rfl (by decide) rfl
theorem bit0B : Statement .bit0B := of_eval 1 rfl (by decide) rfl
theorem bit0C : Statement .bit0C := of_eval 1 rfl (by decide) rfl
theorem bit0D : Statement .bit0D := of_eval 1 rfl (by decide) rfl
theorem bit0E : Statement .bit0E := of_eval 1 rfl (by decide) rfl
theorem bit0H : Statement .bit0H := of_eval 1 rfl (by decide) rfl
theorem bit0L : Statement .bit0L := of_eval 1 rfl (by decide) rfl
theorem bit0MemHL : Statement .bit0MemHL := of_eval 1 rfl (by decide) rfl
theorem bit0A : Statement .bit0A := of_eval 1 rfl (by decide) rfl
theorem bit1B : Statement .bit1B := of_eval 1 rfl (by decide) rfl
theorem bit1C : Statement .bit1C := of_eval 1 rfl (by decide) rfl
theorem bit1D : Statement .bit1D := of_eval 1 rfl (by decide) rfl
theorem bit1E : Statement .bit1E := of_eval 1 rfl (by decide) rfl
theorem bit1H : Statement .bit1H := of_eval 1 rfl (by decide) rfl
theorem bit1L : Statement .bit1L := of_eval 1 rfl (by decide) rfl
theorem bit1MemHL : Statement .bit1MemHL := of_eval 1 rfl (by decide) rfl
theorem bit1A : Statement .bit1A := of_eval 1 rfl (by decide) rfl
theorem bit2B : Statement .bit2B := of_eval 1 rfl (by decide) rfl
theorem bit2C : Statement .bit2C := of_eval 1 rfl (by decide) rfl
theorem bit2D : Statement .bit2D := of_eval 1 rfl (by decide) rfl
theorem bit2E : Statement .bit2E := of_eval 1 rfl (by decide) rfl
theorem bit2H : Statement .bit2H := of_eval 1 rfl (by decide) rfl
theorem bit2L : Statement .bit2L := of_eval 1 rfl (by decide) rfl
theorem bit2MemHL : Statement .bit2MemHL := of_eval 1 rfl (by decide) rfl
theorem bit2A : Statement .bit2A := of_eval 1 rfl (by decide) rfl
theorem bit3B : Statement .bit3B := of_eval 1 rfl (by decide) rfl
theorem bit3C : Statement .bit3C := of_eval 1 rfl (by decide) rfl
theorem bit3D : Statement .bit3D := of_eval 1 rfl (by decide) rfl
theorem bit3E : Statement .bit3E := of_eval 1 rfl (by decide) rfl
theorem bit3H : Statement .bit3H := of_eval 1 rfl (by decide) rfl
theorem bit3L : Statement .bit3L := of_eval 1 rfl (by decide) rfl
theorem bit3MemHL : Statement .bit3MemHL := of_eval 1 rfl (by decide) rfl
theorem bit3A : Statement .bit3A := of_eval 1 rfl (by decide) rfl
theorem bit4B : Statement .bit4B := of_eval 1 rfl (by decide) rfl
theorem bit4C : Statement .bit4C := of_eval 1 rfl (by decide) rfl
theorem bit4D : Statement .bit4D := of_eval 1 rfl (by decide) rfl
theorem bit4E : Statement .bit4E := of_eval 1 rfl (by decide) rfl
theorem bit4H : Statement .bit4H := of_eval 1 rfl (by decide) rfl
theorem bit4L : Statement .bit4L := of_eval 1 rfl (by decide) rfl
theorem bit4MemHL : Statement .bit4MemHL := of_eval 1 rfl (by decide) rfl
theorem bit4A : Statement .bit4A := of_eval 1 rfl (by decide) rfl
theorem bit5B : Statement .bit5B := of_eval 1 rfl (by decide) rfl
theorem bit5C : Statement .bit5C := of_eval 1 rfl (by decide) rfl
theorem bit5D : Statement .bit5D := of_eval 1 rfl (by decide) rfl
theorem bit5E : Statement .bit5E := of_eval 1 rfl (by decide) rfl
theorem bit5H : Statement .bit5H := of_eval 1 rfl (by decide) rfl
theorem bit5L : Statement .bit5L := of_eval 1 rfl (by decide) rfl
theorem bit5MemHL : Statement .bit5MemHL := of_eval 1 rfl (by decide) rfl
theorem bit5A : Statement .bit5A := of_eval 1 rfl (by decide) rfl
theorem bit6B : Statement .bit6B := of_eval 1 rfl (by decide) rfl
theorem bit6C : Statement .bit6C := of_eval 1 rfl (by decide) rfl
theorem bit6D : Statement .bit6D := of_eval 1 rfl (by decide) rfl
theorem bit6E : Statement .bit6E := of_eval 1 rfl (by decide) rfl
theorem bit6H : Statement .bit6H := of_eval 1 rfl (by decide) rfl
theorem bit6L : Statement .bit6L := of_eval 1 rfl (by decide) rfl
theorem bit6MemHL : Statement .bit6MemHL := of_eval 1 rfl (by decide) rfl
theorem bit6A : Statement .bit6A := of_eval 1 rfl (by decide) rfl
theorem bit7B : Statement .bit7B := of_eval 1 rfl (by decide) rfl
theorem bit7C : Statement .bit7C := of_eval 1 rfl (by decide) rfl
theorem bit7D : Statement .bit7D := of_eval 1 rfl (by decide) rfl
theorem bit7E : Statement .bit7E := of_eval 1 rfl (by decide) rfl
theorem bit7H : Statement .bit7H := of_eval 1 rfl (by decide) rfl
theorem bit7L : Statement .bit7L := of_eval 1 rfl (by decide) rfl
theorem bit7MemHL : Statement .bit7MemHL := of_eval 1 rfl (by decide) rfl
theorem bit7A : Statement .bit7A := of_eval 1 rfl (by decide) rfl
theorem res0B : Statement .res0B := of_eval 1 rfl (by decide) rfl
theorem res0C : Statement .res0C := of_eval 1 rfl (by decide) rfl
theorem res0D : Statement .res0D := of_eval 1 rfl (by decide) rfl
theorem res0E : Statement .res0E := of_eval 1 rfl (by decide) rfl
theorem res0H : Statement .res0H := of_eval 1 rfl (by decide) rfl
theorem res0L : Statement .res0L := of_eval 1 rfl (by decide) rfl
theorem res0MemHL : Statement .res0MemHL := of_eval 1 rfl (by decide) rfl
theorem res0A : Statement .res0A := of_eval 1 rfl (by decide) rfl
theorem res1B : Statement .res1B := of_eval 1 rfl (by decide) rfl
theorem res1C : Statement .res1C := of_eval 1 rfl (by decide) rfl
theorem res1D : Statement .res1D := of_eval 1 rfl (by decide) rfl
theorem res1E : Statement .res1E := of_eval 1 rfl (by decide) rfl
theorem res1H : Statement .res1H := of_eval 1 rfl (by decide) rfl
theorem res1L : Statement .res1L := of_eval 1 rfl (by decide) rfl
theorem res1MemHL : Statement .res1MemHL := of_eval 1 rfl (by decide) rfl
theorem res1A : Statement .res1A := of_eval 1 rfl (by decide) rfl
theorem res2B : Statement .res2B := of_eval 1 rfl (by decide) rfl
theorem res2C : Statement .res2C := of_eval 1 rfl (by decide) rfl
theorem res2D : Statement .res2D := of_eval 1 rfl (by decide) rfl
theorem res2E : Statement .res2E := of_eval 1 rfl (by decide) rfl
theorem res2H : Statement .res2H := of_eval 1 rfl (by decide) rfl
theorem res2L : Statement .res2L := of_eval 1 rfl (by decide) rfl
theorem res2MemHL : Statement .res2MemHL := of_eval 1 rfl (by decide) rfl
theorem res2A : Statement .res2A := of_eval 1 rfl (by decide) rfl
theorem res3B : Statement .res3B := of_eval 1 rfl (by decide) rfl
theorem res3C : Statement .res3C := of_eval 1 rfl (by decide) rfl
theorem res3D : Statement .res3D := of_eval 1 rfl (by decide) rfl
theorem res3E : Statement .res3E := of_eval 1 rfl (by decide) rfl
theorem res3H : Statement .res3H := of_eval 1 rfl (by decide) rfl
theorem res3L : Statement .res3L := of_eval 1 rfl (by decide) rfl
theorem res3MemHL : Statement .res3MemHL := of_eval 1 rfl (by decide) rfl
theorem res3A : Statement .res3A := of_eval 1 rfl (by decide) rfl
theorem res4B : Statement .res4B := of_eval 1 rfl (by decide) rfl
theorem res4C : Statement .res4C := of_eval 1 rfl (by decide) rfl
theorem res4D : Statement .res4D := of_eval 1 rfl (by decide) rfl
theorem res4E : Statement .res4E := of_eval 1 rfl (by decide) rfl
theorem res4H : Statement .res4H := of_eval 1 rfl (by decide) rfl
theorem res4L : Statement .res4L := of_eval 1 rfl (by decide) rfl
theorem res4MemHL : Statement .res4MemHL := of_eval 1 rfl (by decide) rfl
theorem res4A : Statement .res4A := of_eval 1 rfl (by decide) rfl
theorem res5B : Statement .res5B := of_eval 1 rfl (by decide) rfl
theorem res5C : Statement .res5C := of_eval 1 rfl (by decide) rfl
theorem res5D : Statement .res5D := of_eval 1 rfl (by decide) rfl
theorem res5E : Statement .res5E := of_eval 1 rfl (by decide) rfl
theorem res5H : Statement .res5H := of_eval 1 rfl (by decide) rfl
theorem res5L : Statement .res5L := of_eval 1 rfl (by decide) rfl
theorem res5MemHL : Statement .res5MemHL := of_eval 1 rfl (by decide) rfl
theorem res5A : Statement .res5A := of_eval 1 rfl (by decide) rfl
theorem res6B : Statement .res6B := of_eval 1 rfl (by decide) rfl
theorem res6C : Statement .res6C := of_eval 1 rfl (by decide) rfl
theorem res6D : Statement .res6D := of_eval 1 rfl (by decide) rfl
theorem res6E : Statement .res6E := of_eval 1 rfl (by decide) rfl
theorem res6H : Statement .res6H := of_eval 1 rfl (by decide) rfl
theorem res6L : Statement .res6L := of_eval 1 rfl (by decide) rfl
theorem res6MemHL : Statement .res6MemHL := of_eval 1 rfl (by decide) rfl
theorem res6A : Statement .res6A := of_eval 1 rfl (by decide) rfl
theorem res7B : Statement .res7B := of_eval 1 rfl (by decide) rfl
theorem res7C : Statement .res7C := of_eval 1 rfl (by decide) rfl
theorem res7D : Statement .res7D := of_eval 1 rfl (by decide) rfl
theorem res7E : Statement .res7E := of_eval 1 rfl (by decide) rfl
theorem res7H : Statement .res7H := of_eval 1 rfl (by decide) rfl
theorem res7L : Statement .res7L := of_eval 1 rfl (by decide) rfl
theorem res7MemHL : Statement .res7MemHL := of_eval 1 rfl (by decide) rfl
theorem res7A : Statement .res7A := of_eval 1 rfl (by decide) rfl
theorem set0B : Statement .set0B := of_eval 1 rfl (by decide) rfl
theorem set0C : Statement .set0C := of_eval 1 rfl (by decide) rfl
theorem set0D : Statement .set0D := of_eval 1 rfl (by decide) rfl
theorem set0E : Statement .set0E := of_eval 1 rfl (by decide) rfl
theorem set0H : Statement .set0H := of_eval 1 rfl (by decide) rfl
theorem set0L : Statement .set0L := of_eval 1 rfl (by decide) rfl
theorem set0MemHL : Statement .set0MemHL := of_eval 1 rfl (by decide) rfl
theorem set0A : Statement .set0A := of_eval 1 rfl (by decide) rfl
theorem set1B : Statement .set1B := of_eval 1 rfl (by decide) rfl
theorem set1C : Statement .set1C := of_eval 1 rfl (by decide) rfl
theorem set1D : Statement .set1D := of_eval 1 rfl (by decide) rfl
theorem set1E : Statement .set1E := of_eval 1 rfl (by decide) rfl
theorem set1H : Statement .set1H := of_eval 1 rfl (by decide) rfl
theorem set1L : Statement .set1L := of_eval 1 rfl (by decide) rfl
theorem set1MemHL : Statement .set1MemHL := of_eval 1 rfl (by decide) rfl
theorem set1A : Statement .set1A := of_eval 1 rfl (by decide) rfl
theorem set2B : Statement .set2B := of_eval 1 rfl (by decide) rfl
theorem set2C : Statement .set2C := of_eval 1 rfl (by decide) rfl
theorem set2D : Statement .set2D := of_eval 1 rfl (by decide) rfl
theorem set2E : Statement .set2E := of_eval 1 rfl (by decide) rfl
theorem set2H : Statement .set2H := of_eval 1 rfl (by decide) rfl
theorem set2L : Statement .set2L := of_eval 1 rfl (by decide) rfl
theorem set2MemHL : Statement .set2MemHL := of_eval 1 rfl (by decide) rfl
theorem set2A : Statement .set2A := of_eval 1 rfl (by decide) rfl
theorem set3B : Statement .set3B := of_eval 1 rfl (by decide) rfl
theorem set3C : Statement .set3C := of_eval 1 rfl (by decide) rfl
theorem set3D : Statement .set3D := of_eval 1 rfl (by decide) rfl
theorem set3E : Statement .set3E := of_eval 1 rfl (by decide) rfl
theorem set3H : Statement .set3H := of_eval 1 rfl (by decide) rfl
theorem set3L : Statement .set3L := of_eval 1 rfl (by decide) rfl
theorem set3MemHL : Statement .set3MemHL := of_eval 1 rfl (by decide) rfl
theorem set3A : Statement .set3A := of_eval 1 rfl (by decide) rfl
theorem set4B : Statement .set4B := of_eval 1 rfl (by decide) rfl
theorem set4C : Statement .set4C := of_eval 1 rfl (by decide) rfl
theorem set4D : Statement .set4D := of_eval 1 rfl (by decide) rfl
theorem set4E : Statement .set4E := of_eval 1 rfl (by decide) rfl
theorem set4H : Statement .set4H := of_eval 1 rfl (by decide) rfl
theorem set4L : Statement .set4L := of_eval 1 rfl (by decide) rfl
theorem set4MemHL : Statement .set4MemHL := of_eval 1 rfl (by decide) rfl
theorem set4A : Statement .set4A := of_eval 1 rfl (by decide) rfl
theorem set5B : Statement .set5B := of_eval 1 rfl (by decide) rfl
theorem set5C : Statement .set5C := of_eval 1 rfl (by decide) rfl
theorem set5D : Statement .set5D := of_eval 1 rfl (by decide) rfl
theorem set5E : Statement .set5E := of_eval 1 rfl (by decide) rfl
theorem set5H : Statement .set5H := of_eval 1 rfl (by decide) rfl
theorem set5L : Statement .set5L := of_eval 1 rfl (by decide) rfl
theorem set5MemHL : Statement .set5MemHL := of_eval 1 rfl (by decide) rfl
theorem set5A : Statement .set5A := of_eval 1 rfl (by decide) rfl
theorem set6B : Statement .set6B := of_eval 1 rfl (by decide) rfl
theorem set6C : Statement .set6C := of_eval 1 rfl (by decide) rfl
theorem set6D : Statement .set6D := of_eval 1 rfl (by decide) rfl
theorem set6E : Statement .set6E := of_eval 1 rfl (by decide) rfl
theorem set6H : Statement .set6H := of_eval 1 rfl (by decide) rfl
theorem set6L : Statement .set6L := of_eval 1 rfl (by decide) rfl
theorem set6MemHL : Statement .set6MemHL := of_eval 1 rfl (by decide) rfl
theorem set6A : Statement .set6A := of_eval 1 rfl (by decide) rfl
theorem set7B : Statement .set7B := of_eval 1 rfl (by decide) rfl
theorem set7C : Statement .set7C := of_eval 1 rfl (by decide) rfl
theorem set7D : Statement .set7D := of_eval 1 rfl (by decide) rfl
theorem set7E : Statement .set7E := of_eval 1 rfl (by decide) rfl
theorem set7H : Statement .set7H := of_eval 1 rfl (by decide) rfl
theorem set7L : Statement .set7L := of_eval 1 rfl (by decide) rfl
theorem set7MemHL : Statement .set7MemHL := of_eval 1 rfl (by decide) rfl
theorem set7A : Statement .set7A := of_eval 1 rfl (by decide) rfl

end Sys2Proof.Laws.Encoding
end

