-- ==== Sys2Proof/Laws/Render.lean ====
section
/-! SUPPORT. The rendering functions of Machine/Render.lean give what the terms of Safety.lean say of a line's
pixels (60_exceptions R388 to R391). -/

namespace Sys2Proof.Machine

variable (s : State)

/-- A bit as a number. -/
theorem planePixel_toNat (lo hi : Byte) (c : Nat) :
    (planePixel lo hi c).toNat = 2 * (hi.getLsbD (7 - c)).toNat + (lo.getLsbD (7 - c)).toNat := by
  unfold planePixel bitOf
  cases hi.getLsbD (7 - c) <;> cases lo.getLsbD (7 - c) <;> rfl

/-- A palette's shade, by the number of its colour. -/
theorem paletteShade_eq (pal : Byte) (c : BitVec 2) : paletteShade pal c = shadeOf pal c.toNat := by
  apply BitVec.eq_of_toNat_eq
  simp only [paletteShade, shadeOf, BitVec.extractLsb'_toNat, BitVec.toNat_ofNat, Nat.shiftRight_eq_div_pow, Nat.pow_mul]

/-- A tile map's pixel. -/
theorem tilePixel_toNat (map x y : Nat) :
    (tilePixel s.ppu s.mem.vram map x y).toNat = s.mapColour map x y := by
  simp only [tilePixel, planePixel_toNat, State.mapColour, planeColour, tileBase, bitOf]
  rfl

theorem windowCovers_eq (ly x : Nat) : windowCovers s.ppu ly x = s.windowOver ly x := by
  simp [windowCovers, State.windowOver, bitOf, Bool.and_assoc]

/-- The background or window colour. -/
theorem bgColour_toNat (ly x : Nat) : (bgColour s.ppu s.mem.vram ly x).toNat = s.backColour ly x := by
  unfold bgColour State.backColour
  rw [windowCovers_eq]
  unfold bitOf
  cases h0 : s.ppu.lcdc.getLsbD 0
  · rfl
  · cases hw : s.windowOver ly x
    · exact tilePixel_toNat s _ _ _
    · exact tilePixel_toNat s _ _ _

/-! The objects of a line. -/

theorem objHeight_eq : objHeight s.ppu = s.objTall := rfl

theorem covers_eq (ly i : Nat) :
    (oamEntry s.mem.oam i).covers (objHeight s.ppu) ly = s.objOnLine ly i := by
  rw [Obj.covers, State.objOnLine, Bool.decide_and]; rfl

/-- The first `k` of the numbers below `n` that satisfy `p`: those with fewer than `k` such below them. -/
theorem mem_take_filter_range (p : Nat → Bool) (k n i : Nat) :
    i ∈ ((List.range n).filter p).take k ↔
      i < n ∧ p i = true ∧ ((List.range i).filter p).length < k := by
  induction n with
  | zero => simp
  | succ n ih =>
    rw [List.range_succ, List.filter_append, List.take_append, List.mem_append, ih]
    have hm : i < n → p i = true →
        ((List.range i).filter p).length < ((List.range n).filter p).length := by
      intro hi hp
      have h1 : List.Sublist (List.range (i + 1)) (List.range n) := List.range_sublist.2 hi
      have h2 := (h1.filter p).length_le
      rw [List.range_succ, List.filter_append] at h2
      simp [hp] at h2; omega
    by_cases hn : p n = true
    · simp only [List.filter_cons, hn, if_true, List.filter_nil]
      constructor
      · rintro (⟨h1, h2⟩ | h)
        · exact ⟨by omega, h2⟩
        · have := List.mem_of_mem_take h
          have e : i = n := by simpa using this
          subst e
          refine ⟨by omega, hn, ?_⟩
          by_contra hc
          rw [Nat.sub_eq_zero_of_le (by omega)] at h; simp at h
      · rintro ⟨h1, h2, h3⟩
        by_cases e : i = n
        · subst e; right
          obtain ⟨m, hm⟩ : ∃ m, k - ((List.range i).filter p).length = m + 1 := ⟨k - ((List.range i).filter p).length - 1, by omega⟩
          rw [hm]; simp
        · left; exact ⟨by omega, h2, h3⟩
    · simp only [List.filter_cons, hn, List.filter_nil]
      constructor
      · rintro (⟨h1, h2⟩ | h)
        · exact ⟨by omega, h2⟩
        · simp at h
      · rintro ⟨h1, h2, h3⟩
        left; refine ⟨?_, h2, h3⟩
        rcases Nat.lt_or_ge i n with h | h
        · exact h
        · have : i = n := by omega
          subst this; exact absurd h2 hn

/-- The selected objects. -/
theorem selectObjects_eq (ly : Nat) : selectObjects s.ppu s.mem.oam ly =
    (((List.range 40).filter (s.objOnLine ly)).take 10).map (oamEntry s.mem.oam) := by
  unfold selectObjects
  rw [List.filter_map, ← List.map_take]
  congr 3
  funext i; exact covers_eq s ly i

theorem mem_selectObjects (ly : Nat) (o : Obj) : o ∈ selectObjects s.ppu s.mem.oam ly ↔
    ∃ i, s.objSelected ly i = true ∧ o = oamEntry s.mem.oam i := by
  rw [selectObjects_eq, List.mem_map]
  simp only [mem_take_filter_range, State.objSelected, Bool.and_eq_true, decide_eq_true_eq]
  constructor
  · rintro ⟨i, ⟨h1, h2, h3⟩, rfl⟩; exact ⟨i, ⟨⟨h1, h2⟩, h3⟩, rfl⟩
  · rintro ⟨i, ⟨⟨h1, h2⟩, h3⟩, rfl⟩; exact ⟨i, ⟨h1, h2, h3⟩, rfl⟩

/-- Drawing priority (R391). -/
def Obj.before (o q : Obj) : Prop := o.x < q.x ∨ (o.x = q.x ∧ o.index < q.index)

theorem mem_insertByX (o q : Obj) (l : List Obj) : q ∈ insertByX o l ↔ q = o ∨ q ∈ l := by
  induction l with
  | nil => simp [insertByX]
  | cons r rs ih =>
    unfold insertByX; split
    · simp
    · simp only [List.mem_cons, ih]; tauto

/-- Inserting an object of a greater OAM index than all keeps the order. -/
theorem pairwise_insertByX (o : Obj) (l : List Obj) (hl : l.Pairwise Obj.before)
    (hi : ∀ q ∈ l, q.index < o.index) : (insertByX o l).Pairwise Obj.before := by
  induction l with
  | nil => simp [insertByX]
  | cons r rs ih =>
    rw [List.pairwise_cons] at hl
    unfold insertByX; split
    · rename_i hx
      refine List.Pairwise.cons ?_ (List.Pairwise.cons hl.1 hl.2)
      intro q hq
      rcases List.mem_cons.1 hq with rfl | hq
      · exact .inl hx
      · rcases hl.1 q hq with h | h
        · exact .inl (by omega)
        · exact .inl (by omega)
    · rename_i hx
      refine List.Pairwise.cons ?_ (ih hl.2 fun q hq => hi q (List.mem_cons_of_mem _ hq))
      intro q hq
      rcases (mem_insertByX o q rs).1 hq with rfl | hq
      · have := hi r (by simp)
        unfold Obj.before; omega
      · exact hl.1 q hq

theorem foldl_insertByX (l acc : List Obj) (ha : acc.Pairwise Obj.before)
    (hl : l.Pairwise fun o q => o.index < q.index) (h : ∀ o ∈ acc, ∀ q ∈ l, o.index < q.index) :
    (l.foldl (fun acc o => insertByX o acc) acc).Pairwise Obj.before ∧
      ∀ q, q ∈ l.foldl (fun acc o => insertByX o acc) acc ↔ q ∈ acc ∨ q ∈ l := by
  induction l generalizing acc with
  | nil => simp [ha]
  | cons o os ih =>
    rw [List.pairwise_cons] at hl
    have := ih (insertByX o acc) (pairwise_insertByX o acc ha fun q hq => h q hq o (by simp)) hl.2 ?_
    · refine ⟨this.1, fun q => ?_⟩
      rw [List.foldl_cons, this.2, mem_insertByX, List.mem_cons]; tauto
    · intro q hq r hr
      rcases (mem_insertByX o q acc).1 hq with rfl | hq
      · exact hl.1 r hr
      · exact h q hq r (by simp [hr])

/-- A line's objects in drawing priority: the selected ones, by X and then OAM index. -/
theorem byPriority_selectObjects (ly : Nat) :
    (byPriority (selectObjects s.ppu s.mem.oam ly)).Pairwise Obj.before ∧
      ∀ o, o ∈ byPriority (selectObjects s.ppu s.mem.oam ly) ↔
        ∃ i, s.objSelected ly i = true ∧ o = oamEntry s.mem.oam i := by
  have hl : (selectObjects s.ppu s.mem.oam ly).Pairwise fun o q => o.index < q.index := by
    rw [selectObjects_eq, List.pairwise_map]
    exact (List.pairwise_lt_range.filter _).take
  have := foldl_insertByX _ [] List.Pairwise.nil hl (by simp)
  refine ⟨this.1, fun o => ?_⟩
  rw [← mem_selectObjects, byPriority, this.2]; simp

/-- An even tile number. -/
theorem evenTile (t : Byte) : (t &&& 0xFE).toNat = t.toNat / 2 * 2 := by revert t; decide

/-- The colour of an object. -/
theorem colour_toNat (ly x i : Nat) :
    ((oamEntry s.mem.oam i).colour (objHeight s.ppu) s.mem.vram x ly).toNat = s.objColour ly x i := by
  simp only [Obj.colour, planePixel_toNat, State.objColour, planeColour, oamEntry, State.objByte, bitOf,
    objHeight_eq, evenTile]
  rfl

/-- The object shows at the pixel. -/
theorem shows_iff (ly x i : Nat) (h : s.objSelected ly i = true) :
    ((oamEntry s.mem.oam i).coversColumn x &&
      (oamEntry s.mem.oam i).colour (objHeight s.ppu) s.mem.vram x ly != 0) = s.objShows ly x i := by
  have e : ((oamEntry s.mem.oam i).colour (objHeight s.ppu) s.mem.vram x ly != 0) = (s.objColour ly x i != 0) := by
    rw [← colour_toNat, Bool.eq_iff_iff, bne_iff_ne, bne_iff_ne, Ne, Ne, ← BitVec.toNat_inj]; rfl
  rw [e, Obj.coversColumn, State.objShows, h, Bool.true_and, Bool.decide_and]; rfl

/-- The search finds the first object that shows, in any order in which one can come before the others. -/
theorem objectPixel_first (l : List Obj) (h : Nat) (vram : Cells 8) (x ly : Nat) (o : Obj) (hl : l.Pairwise Obj.before)
    (ho : o ∈ l) (hs : (o.coversColumn x && o.colour h vram x ly != 0) = true)
    (hw : ∀ q ∈ l, (q.coversColumn x && q.colour h vram x ly != 0) = true → q = o ∨ o.before q) :
    objectPixel l h vram x ly = some (o, o.colour h vram x ly) := by
  induction l with
  | nil => cases ho
  | cons r rs ih =>
    rw [List.pairwise_cons] at hl
    unfold objectPixel
    split
    · rename_i hr
      rcases hw r (by simp) hr with rfl | hb
      · rfl
      · rcases List.mem_cons.1 ho with rfl | hm
        · rfl
        · have := hl.1 o hm
          unfold Obj.before at this hb; omega
    · rename_i hr
      rcases List.mem_cons.1 ho with rfl | hm
      · exact absurd hs hr
      · exact ih hl.2 hm fun q hq => hw q (by simp [hq])

theorem objectPixel_none (l : List Obj) (h : Nat) (vram : Cells 8) (x ly : Nat)
    (hn : ∀ q ∈ l, (q.coversColumn x && q.colour h vram x ly != 0) = false) :
    objectPixel l h vram x ly = none := by
  induction l with
  | nil => rfl
  | cons r rs ih =>
    unfold objectPixel
    rw [if_neg (by rw [hn r (by simp)]; simp)]
    exact ih fun q hq => hn q (by simp [hq])

/-- The pixel where no object shows (R388). -/
theorem pixelShade_back (ly x : Nat) (h : s.ppu.lcdc.getLsbD 1 = false ∨ ∀ i, s.objShows ly x i = false) :
    pixelShade s.ppu s.mem.vram (byPriority (selectObjects s.ppu s.mem.oam ly)) ly x =
      shadeOf s.ppu.bgp (s.backColour ly x) := by
  unfold pixelShade; dsimp only
  rw [paletteShade_eq s.ppu.bgp, bgColour_toNat]
  rcases h with h | h
  · rw [if_neg (by unfold bitOf; rw [h]; decide)]
  · rw [objectPixel_none]
    · split <;> rfl
    · intro q hq
      obtain ⟨i, hi, rfl⟩ := ((byPriority_selectObjects s ly).2 q).1 hq
      rw [shows_iff s ly x i hi]; exact h i

/-- The pixel where an object wins (R388, R391). -/
theorem pixelShade_object (ly x i : Nat) (hl : s.ppu.lcdc.getLsbD 1 = true) (h : s.objWins ly x i) :
    pixelShade s.ppu s.mem.vram (byPriority (selectObjects s.ppu s.mem.oam ly)) ly x =
      if (s.objByte i 3).getLsbD 7 = true ∧ s.backColour ly x ≠ 0 then shadeOf s.ppu.bgp (s.backColour ly x)
      else shadeOf (if (s.objByte i 3).getLsbD 4 then s.ppu.obp1 else s.ppu.obp0) (s.objColour ly x i) := by
  have hsel (j : Nat) (hj : s.objShows ly x j = true) : s.objSelected ly j = true := by
    simp only [State.objShows, Bool.and_eq_true] at hj; exact hj.1.1
  have hi := hsel i h.1
  obtain ⟨hp, hm⟩ := byPriority_selectObjects s ly
  have hobj : objectPixel (byPriority (selectObjects s.ppu s.mem.oam ly)) (objHeight s.ppu) s.mem.vram x ly = _ :=
    objectPixel_first _ _ _ _ _ (oamEntry s.mem.oam i) hp ((hm _).2 ⟨i, hi, rfl⟩)
      (by rw [shows_iff s ly x i hi]; exact h.1) (by
        intro q hq hs
        obtain ⟨j, hj, rfl⟩ := (hm q).1 hq
        rw [shows_iff s ly x j hj] at hs
        by_cases e : j = i
        · subst e; exact .inl rfl
        · right
          rcases h.2 j hs e with h1 | ⟨h1, h2⟩
          · exact .inl h1
          · exact .inr ⟨congrArg BitVec.toNat h1, h2⟩)
  have hne : (bgColour s.ppu s.mem.vram ly x != 0) = decide (s.backColour ly x ≠ 0) := by
    rw [← bgColour_toNat, Bool.eq_iff_iff, bne_iff_ne, decide_eq_true_eq, Ne, Ne, ← BitVec.toNat_inj]; rfl
  unfold pixelShade; dsimp only
  rw [hobj, if_pos (show bitOf s.ppu.lcdc 1 = true from hl), paletteShade_eq s.ppu.bgp, bgColour_toNat, hne]
  simp only [paletteShade_eq, colour_toNat]
  have e3 : (oamEntry s.mem.oam i).attr = s.objByte i 3 := rfl
  rw [e3]
  simp only [bitOf, Bool.and_eq_true, decide_eq_true_eq]
  congr

/-! Writing the row. -/

/-- A row's columns take their shades; every other cell stays (R388). -/
theorem read_writeRow (shade : Nat → BitVec 2) (ly n px k : Nat) (fb : Cells 2) {hi : Nat}
    (h : fb.wfIn 0 hi = true) (hb : ly * lineWidth + px + n ≤ hi) :
    (writeRow shade ly px n fb).read k =
      if ly * lineWidth + px ≤ k ∧ k < ly * lineWidth + px + n then shade (k - ly * lineWidth) else fb.read k := by
  induction n generalizing px fb with
  | zero => simp only [writeRow]; rw [if_neg (by omega)]
  | succ n ih =>
    simp only [writeRow]
    rw [ih (px + 1) _ (Cells.wfIn_write _ h (by omega) (by omega)) (by omega)]
    by_cases e : k = ly * lineWidth + px
    · subst e
      rw [if_neg (by omega), if_pos (by omega), Cells.read_write_same _ _ _ h]
      congr 1; omega
    · rw [Cells.read_write_other _ _ e]
      congr 1; apply propext; omega

/-- The window's line counter rises exactly if the window was drawn (R388, R389). -/
theorem windowUsed_iff (ly : Nat) : windowUsed s.ppu ly = true ↔
    s.ppu.lcdc.getLsbD 0 = true ∧ ∃ x, x < 160 ∧ s.windowOver ly x = true := by
  unfold windowUsed bitOf
  simp only [Bool.and_eq_true, List.any_eq_true, List.mem_range, windowCovers_eq, lineWidth]

/-- The STAT line's evaluation changes that line and IF alone (R386). -/
theorem updateStatLine_keeps (s : State) : ∃ f b, s.updateStatLine = { s with ifReg := f, ppu := { s.ppu with statLine := b } } := by
  unfold State.updateStatLine; dsimp only; split
  · exact ⟨_, _, rfl⟩
  · exact ⟨_, _, rfl⟩

/-- What the render of a line leaves (R388). -/
theorem renderLine_fbLive (p : Ppu) (vram oam : Cells 8) (ly : Nat) : (p.renderLine vram oam ly).fbLive =
    writeRow (pixelShade p vram (byPriority (selectObjects p oam ly)) ly) ly 0 lineWidth p.fbLive := by
  simp only [Ppu.renderLine]
theorem renderLine_winLine (p : Ppu) (vram oam : Cells 8) (ly : Nat) : (p.renderLine vram oam ly).winLine =
    if windowUsed p ly then p.winLine + 1 else p.winLine := by
  simp only [Ppu.renderLine]

/-- The render does not depend on the position in the line and changes neither it nor the mode. -/
theorem renderLine_at (p : Ppu) (vram oam : Cells 8) (ly d : Nat) (m : PpuMode) :
    Ppu.renderLine { p with dot := d, mode := m } vram oam ly = { p with
      dot := d, mode := m, fbLive := (p.renderLine vram oam ly).fbLive, winLine := (p.renderLine vram oam ly).winLine } := by
  have h1 : selectObjects { p with dot := d, mode := m } oam ly = selectObjects p oam ly := rfl
  have h2 (sel : List Obj) : pixelShade { p with dot := d, mode := m } vram sel ly = pixelShade p vram sel ly := by
    funext x; unfold pixelShade; rfl
  have h3 : windowUsed { p with dot := d, mode := m } ly = windowUsed p ly := by unfold windowUsed; rfl
  simp only [Ppu.renderLine, h1, h2, h3]

/-- The cycle that starts pixel transfer on a visible line: the position, the mode, the row and the window's line
counter (R380, R388). -/
theorem ppuTick_render (s : State) (hon : s.ppu.lcdOn = true) (hly : s.ppu.ly.toNat < 144) (hdot : s.ppu.dot = 79)
    (hmode : s.ppu.mode = .oamScan) (hx : 1 ≤ s.cfg.params.xferCycles) :
    ∃ f b, s.ppuTick = { s with ifReg := f, ppu := { s.ppu with
      dot := 80, mode := .transfer, statLine := b
      fbLive := (s.ppu.renderLine s.mem.vram s.mem.oam s.ppu.ly.toNat).fbLive
      winLine := (s.ppu.renderLine s.mem.vram s.mem.oam s.ppu.ly.toNat).winLine } } := by
  have hn : s.ppu.nextDot = { s.ppu with dot := 80 } := by
    unfold Ppu.nextDot; rw [hdot]; rfl
  have hm : modeAt s.cfg.params s.ppu.ly 80 = .transfer := by
    unfold modeAt
    rw [if_neg (by unfold visibleLines; omega), if_neg (by decide), if_pos (by unfold oamCycles; omega)]
  unfold State.ppuTick
  rw [if_pos hon, hn]
  unfold State.updateMode; dsimp only
  rw [hm, if_neg (by rw [hmode]; decide)]
  obtain ⟨f, b, he⟩ := updateStatLine_keeps (State.enterMode { s with ppu := { s.ppu with dot := 80 } } .transfer)
  rw [he]
  refine ⟨f, b, ?_⟩
  unfold State.enterMode State.renderLine; dsimp only
  rw [renderLine_at]

end Sys2Proof.Machine
end

