-- ==== Sys2Proof/Laws/Step.lean ====
section
/-! SUPPORT. Say once what a step can do (60_exceptions R400). -/

namespace Sys2Proof.Machine

/-- The four things the CPU phase of a step can be. -/
inductive Phase (s : State) : State → Prop where
  /-- An idle step of a power state (60 R347 to R349). -/
  | idle (h : s.run ≠ .running) : Phase s (s.report idleCycles)
  /-- An interrupt dispatch, after a wake if the CPU was halted or stopped (60 R340). -/
  | dispatch (k : Irq) (hi : s.ime = true) (hk : s.pending = some k) (hr : s.run ≠ .locked) :
      Phase s (s.wake.dispatch k)
  /-- An instruction, after a wake if the CPU was halted or stopped. -/
  | instr (i : Instr) (v : State) (hr : s.run ≠ .locked) (hf : s.fetchInstr = some i)
      (hx : exec i (s.wake.afterFetch (opForm s.opcodeByte).length) = .next v) :
      Phase s v.endOfInstruction
  /-- An illegal opcode (45_system R316). -/
  | illegal (hr : s.run ≠ .locked) (hf : s.fetchInstr = none) :
      Phase s (s.wake.afterFetch 1).lockCpu.endOfInstruction

/-- A running CPU is its own woken self. -/
theorem wake_of_running {s : State} (h : s.run = .running) : s.wake = s := by
  cases s; cases h; rfl

theorem runInstr_phase {s t : State} (hr : s.run ≠ .locked) (h : s.wake.runInstr = .next t) : Phase s t := by
  unfold State.runInstr at h
  split at h
  · rename_i i hf
    obtain ⟨v, hv, rfl⟩ := mapNext_eq_next h
    exact .instr i v hr hf hv
  · rename_i hf
    cases h
    exact .illegal hr hf

theorem runStep_phase {s t : State} (hr : s.run ≠ .locked) (h : s.wake.runStep = .next t) : Phase s t := by
  unfold State.runStep at h
  split at h
  · rename_i k hi hk
    cases h
    exact .dispatch k hi hk hr
  · exact runInstr_phase hr h
  · exact runInstr_phase hr h

/-- The inversion of the CPU phase. -/
theorem cpuPhase_phase {s t : State} (h : s.cpuPhase = .next t) : Phase s t := by
  unfold State.cpuPhase at h
  split at h
  · rename_i hr
    cases h; exact .idle (by simp [hr])
  · rename_i hr
    split at h
    · cases h; exact .idle (by simp [hr])
    · exact runStep_phase (by simp [hr]) h
  · rename_i hr
    split at h
    · cases h; exact .idle (by simp [hr])
    · exact runStep_phase (by simp [hr]) h
  · rename_i hr
    exact runStep_phase (by simp [hr]) (by rw [wake_of_running hr]; exact h)

/-- The inversion of `step`: a phase of the CPU, then the peripherals' advance. -/
theorem step_phase {s t : State} (h : step s = .next t) : ∃ u, Phase s u ∧ t = u.advance := by
  obtain ⟨u, hu, rfl⟩ := mapNext_eq_next h
  exact ⟨u, cpuPhase_phase hu, rfl⟩

/-- The end of an instruction changes EI_DELAY and IME alone (60_exceptions R403). -/
theorem endOfInstruction_eq (s : State) :
    s.endOfInstruction = { s with eiDelay := s.endOfInstruction.eiDelay, ime := s.endOfInstruction.ime } := by
  unfold State.endOfInstruction; split
  · rfl
  · split <;> rfl

end Sys2Proof.Machine
end

