-- ==== Sys2Proof/Tests/Slice0.lean ====
section
/-! SUPPORT. Tests on fixed values, each from spec/95_test_vectors or written out from the rules it names, and a
witness for every statement that has hypotheses. -/

namespace Sys2Proof.Tests

/-! One theorem after the other: kernel evaluations in parallel would only wait for each other. -/

set_option Elab.async false

open Sys2Proof Sys2Proof.Machine

/-! The start state S0 of 95_test_vectors section 0 and its variants. -/

/-- S0's registers: R49 with PC = 0x0200. -/
def s0Regs : Regs := { Regs.powerOn Config.default with pc := 0x0200 }

/-- A cartridge whose listed cells are `rom`. -/
def cartOf (m : Mbc) (nrom ramSize : Nat) (rom : Cells 8) : Cart :=
  { mbc := m, nrom := nrom, ramSize := ramSize, rom := rom, xram := [] }

/-- The reset state with a cartridge, IF = 0. -/
def withCart (k : Cart) : State := { State.powerOn Config.default (some k) with ifReg := 0 }

/-- S0: 32 KiB of zeros without controller, the bytes at 0x0200, the given registers. -/
def start (bytes : List Byte) (r : Regs) : State :=
  { withCart (cartOf .noController 2 0 (Cells.ofList 0x0200 bytes)) with regs := r }

/-- S0 with bytes written over the bus. -/
def poke (s : State) : List (Word × Byte) → State
  | [] => s
  | (a, v) :: rest => poke (s.memWrite a v) rest

/-- A view of the state after one step. -/
def after {α : Type} (s : State) (f : State → α) : Option α :=
  match step s with
  | .next t => some (f t)
  | .fault _ => none
  | .refused _ => none

/-- A view of the state after a few steps. -/
def afterN {α : Type} (n : Nat) (s : State) (f : State → α) : Option α := (steps n s).map f

/-! WellFormed: an ill-formed term for each check, which the check refuses (R444, D4 to D6, R7). -/

theorem test_wf_default : Config.default.wellFormed = true ∧ Config.default.params.wellFormed = true := by decide +kernel
theorem test_wf_revision : Config.wellFormed { revision := .other "CGB" } = false := by decide +kernel
theorem test_wf_timing : Config.wellFormed { timing := .other "sub-instruction" } = false := by decide +kernel
theorem test_wf_boot_short : Config.wellFormed { bootRom := some (List.replicate 255 0) } = false := by decide +kernel
theorem test_wf_boot_long : Config.wellFormed { bootRom := some (List.replicate 257 0) } = false := by decide +kernel
theorem test_wf_boot_ok : Config.wellFormed { bootRom := some (List.replicate 256 0) } = true := by decide +kernel
theorem test_wf_div_period : Params.wellFormed { divPeriod := 0 } = false := by decide +kernel
theorem test_wf_reload_delay : Params.wellFormed { timaReloadDelay := 0 } = false := by decide +kernel
theorem test_wf_xfer_zero : Params.wellFormed { xferCycles := 0 } = false := by decide +kernel
theorem test_wf_xfer_line : Params.wellFormed { xferCycles := 376 } = false ∧
    Params.wellFormed { xferCycles := 375 } = true := by decide +kernel
theorem test_wf_construct_refuses : construct { revision := .other "SGB" } = .error .invalidConfig := rfl

/-! Canonical memory: an ill-formed list for each check (R44). -/

theorem test_wf_cells_order : Cells.wfIn ([(3, 1), (2, 1)] : Cells 8) 0 8 = false := by decide +kernel
theorem test_wf_cells_zero : Cells.wfIn ([(3, 0)] : Cells 8) 0 8 = false := by decide +kernel
theorem test_wf_cells_bound : Cells.wfIn ([(8, 1)] : Cells 8) 0 8 = false := by decide +kernel
theorem test_wf_memory : ({ State.reset.mem with oam := [(160, 1)] } : Memory).wf = false := by decide +kernel
theorem test_wf_mbc2_nibble :
    (Cart.wf { cartOf (.mbc2 false 1) 2 512 [] with xram := [(0, 0x10)] }) = false := by decide +kernel
theorem test_write_zero_removes : Cells.write ([(3, 5)] : Cells 8) 3 0 = [] := by decide +kernel

/-! Decoding: every constructor, by the word its fields make (R120 to R129, R132, R133). -/

theorem test_decode_ld_r_r : ∀ row ∈ ldRegRegRows,
    decode3 (opByte 1 (regCode row.2.1) (regCode row.2.2)) 0x5A 0xA5 = some row.1 := by decide +kernel
theorem test_decode_ld_r_n : ∀ row ∈ ldRegImmRows 0x5A,
    decode3 (opByte 0 (regCode row.2) 6) 0x5A 0xA5 = some row.1 := by decide +kernel
theorem test_decode_ld_r_hl : ∀ row ∈ ldRegMemRows,
    decode3 (opByte 1 (regCode row.2) 6) 0x5A 0xA5 = some row.1 := by decide +kernel
theorem test_decode_ld_hl_r : ∀ row ∈ ldMemRegRows,
    decode3 (opByte 1 6 (regCode row.2)) 0x5A 0xA5 = some row.1 := by decide +kernel
theorem test_decode_ld_a : ∀ row ∈ ldAMemRows 0x5A 0xA55A,
    decode3 (row.2.2.2.headD 0) 0x5A 0xA5 = some row.1 := by decide +kernel
theorem test_decode_ld_from_a : ∀ row ∈ ldMemARows 0x5A 0xA55A,
    decode3 (row.2.2.2.headD 0) 0x5A 0xA5 = some row.1 := by decide +kernel
theorem test_decode_ld_more :
    decode3 0b00110110 0x5A 0xA5 = some (.ldMemHLN 0x5A) ∧ decode3 0b00100010 0 0 = some .ldMemHLIncA ∧
    decode3 0b00101010 0 0 = some .ldAMemHLInc ∧ decode3 0b00110010 0 0 = some .ldMemHLDecA ∧
    decode3 0b00111010 0 0 = some .ldAMemHLDec ∧ decode3 0b00000001 0x5A 0xA5 = some (.ldBCNN 0xA55A) ∧
    decode3 0b00010001 0x5A 0xA5 = some (.ldDENN 0xA55A) ∧ decode3 0b00100001 0x5A 0xA5 = some (.ldHLNN 0xA55A) ∧
    decode3 0b00110001 0x5A 0xA5 = some (.ldSPNN 0xA55A) ∧ decode3 0b00001000 0x5A 0xA5 = some (.ldMemNNSP 0xA55A) ∧
    decode3 0b11111001 0 0 = some .ldSPHL := by decide +kernel
theorem test_decode_stack :
    decode3 0b11000101 0 0 = some .pushBC ∧ decode3 0b11010101 0 0 = some .pushDE ∧
    decode3 0b11100101 0 0 = some .pushHL ∧ decode3 0b11110101 0 0 = some .pushAF ∧
    decode3 0b11000001 0 0 = some .popBC ∧ decode3 0b11010001 0 0 = some .popDE ∧
    decode3 0b11100001 0 0 = some .popHL ∧ decode3 0b11110001 0 0 = some .popAF := by decide +kernel
theorem test_decode_add : ∀ row ∈ addRows 0x5A,
    decode3 (row.2.2.2.2.headD 0) 0x5A 0xA5 = some row.1 := by decide +kernel
theorem test_decode_sub : ∀ row ∈ subRows 0x5A,
    decode3 (row.2.2.2.2.headD 0) 0x5A 0xA5 = some row.1 := by decide +kernel
theorem test_decode_logic : ∀ row ∈ logicRows 0x5A,
    decode3 (row.2.2.2.2.headD 0) 0x5A 0xA5 = some row.1 := by decide +kernel
theorem test_decode_inc_dec :
    (∀ row ∈ incRegRows, decode3 (opByte 0 (regCode row.2) 4) 0 0 = some row.1) ∧
    (∀ row ∈ decRegRows, decode3 (opByte 0 (regCode row.2) 5) 0 0 = some row.1) ∧
    decode3 0b00110100 0 0 = some .incMemHL ∧ decode3 0b00110101 0 0 = some .decMemHL := by decide +kernel
theorem test_decode_adjust :
    decode3 0b00100111 0 0 = some .daa ∧ decode3 0b00101111 0 0 = some .cpl ∧
    decode3 0b00110111 0 0 = some .scf ∧ decode3 0b00111111 0 0 = some .ccf := by decide +kernel
theorem test_decode_alu16 :
    (∀ row ∈ addHlRows, decode3 (opByteP 0 (pairCode row.2) 1 1) 0 0 = some row.1) ∧
    (∀ row ∈ incPairRows, decode3 (opByteP 0 (pairCode row.2) 0 3) 0 0 = some row.1) ∧
    (∀ row ∈ decPairRows, decode3 (opByteP 0 (pairCode row.2) 1 3) 0 0 = some row.1) ∧
    decode3 0b11101000 0x5A 0xA5 = some (.addSPE8 0x5A) ∧
    decode3 0b11111000 0x5A 0xA5 = some (.ldHLSPE 0x5A) := by decide +kernel
theorem test_decode_rotate_a :
    decode3 0b00000111 0 0 = some .rlca ∧ decode3 0b00001111 0 0 = some .rrca ∧
    decode3 0b00010111 0 0 = some .rla ∧ decode3 0b00011111 0 0 = some .rra := by decide +kernel
theorem test_decode_shift :
    (∀ row ∈ shiftRegRows, decode3 0xCB (opByte 0 (shiftCode row.2.1) (regCode row.2.2)) 0 = some row.1) ∧
    (∀ row ∈ shiftMemRows, decode3 0xCB (opByte 0 (shiftCode row.2) 6) 0 = some row.1) := by decide +kernel
theorem test_decode_bit :
    (∀ row ∈ bitRegRows, decode3 0xCB (opByte 1 row.2.1 (regCode row.2.2)) 0 = some row.1) ∧
    (∀ row ∈ bitMemRows, decode3 0xCB (opByte 1 row.2 6) 0 = some row.1) := by decide +kernel
theorem test_decode_res :
    (∀ row ∈ resRegRows, decode3 0xCB (opByte 2 row.2.1 (regCode row.2.2)) 0 = some row.1) ∧
    (∀ row ∈ resMemRows, decode3 0xCB (opByte 2 row.2 6) 0 = some row.1) := by decide +kernel
theorem test_decode_set :
    (∀ row ∈ setRegRows, decode3 0xCB (opByte 3 row.2.1 (regCode row.2.2)) 0 = some row.1) ∧
    (∀ row ∈ setMemRows, decode3 0xCB (opByte 3 row.2 6) 0 = some row.1) := by decide +kernel
theorem test_decode_jump :
    decode3 0b11000011 0x5A 0xA5 = some (.jpNN 0xA55A) ∧ decode3 0b11101001 0 0 = some .jpHL ∧
    decode3 0b00011000 0x5A 0xA5 = some (.jrE8 0x5A) ∧
    (∀ row ∈ jpCondRows 0xA55A,
      decode3 (opByte 3 (0#1 ++ condCode row.2) 2) 0x5A 0xA5 = some row.1) ∧
    (∀ row ∈ jrCondRows 0x5A,
      decode3 (opByte 0 (1#1 ++ condCode row.2) 0) 0x5A 0xA5 = some row.1) := by decide +kernel
theorem test_decode_call :
    decode3 0b11001101 0x5A 0xA5 = some (.callNN 0xA55A) ∧
    (∀ row ∈ callCondRows 0xA55A,
      decode3 (opByte 3 (0#1 ++ condCode row.2) 4) 0x5A 0xA5 = some row.1) ∧
    decode3 0b11001001 0 0 = some .ret ∧ decode3 0b11011001 0 0 = some .reti ∧
    (∀ row ∈ retCondRows, decode3 (opByte 3 (0#1 ++ condCode row.2) 0) 0 0 = some row.1) ∧
    (∀ row ∈ rstRows, decode3 (opByte 3 row.2 7) 0 0 = some row.1) := by decide +kernel
theorem test_decode_system :
    decode3 0b00000000 0 0 = some .nop ∧ decode3 0b01110110 0 0 = some .halt ∧
    decode3 0b00010000 0x5A 0xA5 = some (.stop 0x5A) ∧ decode3 0b11110011 0 0 = some .di ∧
    decode3 0b11111011 0 0 = some .ei := by decide +kernel
/-- The table's numbering (log 5): `SET 7,A` is 0xCBFF there, `LD BC,nn` has its opcode in bits 7..0. -/
theorem test_table_words : decodeTableWord 16 0xCBFF = some .set7A ∧ decodeTableWord 8 0x01 = some (.ldBCNN 0) ∧
    decodeTableWord 16 0x5A3E = some (.ldAN 0x5A) ∧ decodeTableWord 24 0x123401 = some (.ldBCNN 0x1234) ∧
    decodeTableWord 8 0xD3 = none := by decide +kernel
/-- The placed word is what the next step runs, from reset too (log 4). -/
theorem test_fetch_word : after (State.reset.withFetchWord 16 0xCBC7) (fun t => t.regs.a) = some 0x01 ∧
    after (State.reset.withFetchWord 16 0x5A3E) (fun t => t.regs.a) = some 0x5A := by decide +kernel

/-! 95_test_vectors section 2: one step each; the whole register file and the report. -/

theorem test_ld_b_b : after (start [0x40] { s0Regs with b := 0x12, f := 0xF0 })
    (fun t => (t.regs, t.cycles)) =
    some ({ s0Regs with b := 0x12, f := 0xF0, pc := 0x0201 }, 4) := by decide +kernel
theorem test_ld_d_a : after (start [0x57] { s0Regs with a := 0x9C, f := 0x00 })
    (fun t => (t.regs, t.cycles)) =
    some ({ s0Regs with a := 0x9C, f := 0x00, d := 0x9C, pc := 0x0201 }, 4) := by decide +kernel
theorem test_ld_mhl_n : after (start [0x36, 0x5A] { s0Regs with h := 0xC0, l := 0x10 })
    (fun t => (t.regs, t.cycles, t.memRead 0xC010)) =
    some ({ s0Regs with h := 0xC0, l := 0x10, pc := 0x0202 }, 12, 0x5A) := by decide +kernel
theorem test_ld_a_mhli : after (poke (start [0x2A] { s0Regs with h := 0xFF, l := 0xFF }) [(0xFFFF, 0x1F)])
    (fun t => (t.regs, t.cycles)) =
    some ({ s0Regs with h := 0x00, l := 0x00, a := 0x1F, pc := 0x0201 }, 8) := by decide +kernel
theorem test_ld_mhld_a : after (start [0x32] { s0Regs with a := 0x77, h := 0xC0, l := 0x00 })
    (fun t => (t.regs, t.cycles, t.memRead 0xC000)) =
    some ({ s0Regs with a := 0x77, h := 0xBF, l := 0xFF, pc := 0x0201 }, 8, 0x77) := by decide +kernel
theorem test_ld_mhli_a : after (start [0x22] { s0Regs with a := 0x11, h := 0xDF, l := 0xFF })
    (fun t => (t.regs, t.cycles, t.memRead 0xDFFF)) =
    some ({ s0Regs with a := 0x11, h := 0xE0, l := 0x00, pc := 0x0201 }, 8, 0x11) := by decide +kernel
theorem test_ld_mnn_sp : after (start [0x08, 0x00, 0xC1] { s0Regs with sp := 0xFFF8 })
    (fun t => (t.regs, t.cycles, t.memRead 0xC100, t.memRead 0xC101)) =
    some ({ s0Regs with sp := 0xFFF8, pc := 0x0203 }, 20, 0xF8, 0xFF) := by decide +kernel
theorem test_ldh_mn_a : after (start [0xE0, 0x80] { s0Regs with a := 0x3C })
    (fun t => (t.regs, t.cycles, t.memRead 0xFF80)) =
    some ({ s0Regs with a := 0x3C, pc := 0x0202 }, 12, 0x3C) := by decide +kernel
theorem test_ldh_a_mc : after (start [0xF2] { s0Regs with c := 0x44 })
    (fun t => (t.regs, t.cycles)) =
    some ({ s0Regs with c := 0x44, a := 0x00, pc := 0x0201 }, 8) := by decide +kernel
theorem test_ld_a_mnn : after (poke (start [0xFA, 0x05, 0xE0] { s0Regs with a := 0x00 }) [(0xC005, 0xAB)])
    (fun t => (t.regs, t.cycles)) =
    some ({ s0Regs with a := 0xAB, pc := 0x0203 }, 16) := by decide +kernel
theorem test_ld_mnn_a : after (start [0xEA, 0x00, 0x80] { s0Regs with a := 0xFF })
    (fun t => (t.regs, t.cycles, t.memRead 0x8000)) =
    some ({ s0Regs with a := 0xFF, pc := 0x0203 }, 16, 0xFF) := by decide +kernel
theorem test_ld_a_mbc : after (start [0x0A] { s0Regs with b := 0xFF, c := 0x0F, a := 0x00 })
    (fun t => (t.regs, t.cycles)) =
    some ({ s0Regs with b := 0xFF, c := 0x0F, a := 0xE0, pc := 0x0201 }, 8) := by decide +kernel
theorem test_ld_mde_a : after (start [0x12] { s0Regs with a := 0x40, d := 0xFE, e := 0xA0 })
    (fun t => (t.regs, t.cycles, t.memRead 0xFEA0)) =
    some ({ s0Regs with a := 0x40, d := 0xFE, e := 0xA0, pc := 0x0201 }, 8, 0xFF) := by decide +kernel
theorem test_ld_bc_nn : after (start [0x01, 0x34, 0x12] s0Regs)
    (fun t => (t.regs, t.cycles)) =
    some ({ s0Regs with b := 0x12, c := 0x34, pc := 0x0203 }, 12) := by decide +kernel
theorem test_pop_de : after (poke (start [0xD1] { s0Regs with sp := 0xFFFE }) [(0xFFFE, 0x34), (0xFFFF, 0x12)])
    (fun t => (t.regs, t.cycles)) =
    some ({ s0Regs with sp := 0x0000, d := 0x12, e := 0x34, pc := 0x0201 }, 12) := by decide +kernel
theorem test_push_hl : after (start [0xE5] { s0Regs with sp := 0x0000, h := 0x00, l := 0x1F })
    (fun t => (t.regs, t.cycles, t.memRead 0xFFFF, t.memRead 0xFFFE)) =
    some ({ s0Regs with sp := 0xFFFE, h := 0x00, l := 0x1F, pc := 0x0201 }, 16, 0x00, 0x1F) := by decide +kernel
theorem test_push_af : after (start [0xF5] { s0Regs with a := 0x12, f := 0xB0, sp := 0xD000 })
    (fun t => (t.regs, t.cycles, t.memRead 0xCFFF, t.memRead 0xCFFE)) =
    some ({ s0Regs with a := 0x12, f := 0xB0, sp := 0xCFFE, pc := 0x0201 }, 16, 0x12, 0xB0) := by decide +kernel
theorem test_ld_sp_hl : after (start [0xF9] { s0Regs with h := 0xC1, l := 0x23 })
    (fun t => (t.regs, t.cycles)) =
    some ({ s0Regs with h := 0xC1, l := 0x23, sp := 0xC123, pc := 0x0201 }, 8) := by decide +kernel

/-! 95_test_vectors section 3: one step each; the whole register file and the report. -/

theorem test_adc_a_e : after (start [0x8B] { s0Regs with a := 0x00, e := 0x00, f := 0x10 })
    (fun t => (t.regs, t.cycles)) =
    some ({ s0Regs with a := 0x01, e := 0x00, f := 0x00, pc := 0x0201 }, 4) := by decide +kernel
theorem test_adc_a_e_2 : after (start [0x8B] { s0Regs with a := 0xFF, e := 0x00, f := 0x10 })
    (fun t => (t.regs, t.cycles)) =
    some ({ s0Regs with a := 0x00, e := 0x00, f := 0xB0, pc := 0x0201 }, 4) := by decide +kernel
theorem test_sbc_a_b : after (start [0x98] { s0Regs with a := 0x10, b := 0x0F, f := 0x10 })
    (fun t => (t.regs, t.cycles)) =
    some ({ s0Regs with a := 0x00, b := 0x0F, f := 0xE0, pc := 0x0201 }, 4) := by decide +kernel
theorem test_sbc_a_b_2 : after (start [0x98] { s0Regs with a := 0x00, b := 0xFF, f := 0x10 })
    (fun t => (t.regs, t.cycles)) =
    some ({ s0Regs with a := 0x00, b := 0xFF, f := 0xF0, pc := 0x0201 }, 4) := by decide +kernel
theorem test_sub_a : after (start [0x97] { s0Regs with a := 0x5A, f := 0x10 })
    (fun t => (t.regs, t.cycles)) =
    some ({ s0Regs with a := 0x00, f := 0xC0, pc := 0x0201 }, 4) := by decide +kernel
theorem test_cp_n : after (start [0xFE, 0x40] { s0Regs with a := 0x3C, f := 0x00 })
    (fun t => (t.regs, t.cycles)) =
    some ({ s0Regs with a := 0x3C, f := 0x50, pc := 0x0202 }, 8) := by decide +kernel
theorem test_cp_n_2 : after (start [0xFE, 0x3C] { s0Regs with a := 0x3C, f := 0x00 })
    (fun t => (t.regs, t.cycles)) =
    some ({ s0Regs with a := 0x3C, f := 0xC0, pc := 0x0202 }, 8) := by decide +kernel
theorem test_and_n : after (start [0xE6, 0x0F] { s0Regs with a := 0xF0, f := 0x10 })
    (fun t => (t.regs, t.cycles)) =
    some ({ s0Regs with a := 0x00, f := 0xA0, pc := 0x0202 }, 8) := by decide +kernel
theorem test_xor_a : after (start [0xAF] { s0Regs with a := 0x77, f := 0x70 })
    (fun t => (t.regs, t.cycles)) =
    some ({ s0Regs with a := 0x00, f := 0x80, pc := 0x0201 }, 4) := by decide +kernel
theorem test_or_c : after (start [0xB1] { s0Regs with a := 0x00, c := 0x00, f := 0x00 })
    (fun t => (t.regs, t.cycles)) =
    some ({ s0Regs with a := 0x00, c := 0x00, f := 0x80, pc := 0x0201 }, 4) := by decide +kernel
theorem test_inc_b : after (start [0x04] { s0Regs with b := 0xFF, f := 0x10 })
    (fun t => (t.regs, t.cycles)) =
    some ({ s0Regs with b := 0x00, f := 0xB0, pc := 0x0201 }, 4) := by decide +kernel
theorem test_inc_b_2 : after (start [0x04] { s0Regs with b := 0x0F, f := 0x00 })
    (fun t => (t.regs, t.cycles)) =
    some ({ s0Regs with b := 0x10, f := 0x20, pc := 0x0201 }, 4) := by decide +kernel
theorem test_dec_b : after (start [0x05] { s0Regs with b := 0x10, f := 0x10 })
    (fun t => (t.regs, t.cycles)) =
    some ({ s0Regs with b := 0x0F, f := 0x70, pc := 0x0201 }, 4) := by decide +kernel
theorem test_dec_b_2 : after (start [0x05] { s0Regs with b := 0x01, f := 0x00 })
    (fun t => (t.regs, t.cycles)) =
    some ({ s0Regs with b := 0x00, f := 0xC0, pc := 0x0201 }, 4) := by decide +kernel
theorem test_daa : after (start [0x27] { s0Regs with a := 0x3C, f := 0x00 })
    (fun t => (t.regs, t.cycles)) =
    some ({ s0Regs with a := 0x42, f := 0x00, pc := 0x0201 }, 4) := by decide +kernel
theorem test_daa_2 : after (start [0x27] { s0Regs with a := 0x2D, f := 0x60 })
    (fun t => (t.regs, t.cycles)) =
    some ({ s0Regs with a := 0x27, f := 0x40, pc := 0x0201 }, 4) := by decide +kernel
theorem test_cpl : after (start [0x2F] { s0Regs with a := 0x35, f := 0x90 })
    (fun t => (t.regs, t.cycles)) =
    some ({ s0Regs with a := 0xCA, f := 0xF0, pc := 0x0201 }, 4) := by decide +kernel
theorem test_scf : after (start [0x37] { s0Regs with f := 0xE0 })
    (fun t => (t.regs, t.cycles)) =
    some ({ s0Regs with f := 0x90, pc := 0x0201 }, 4) := by decide +kernel
theorem test_ccf : after (start [0x3F] { s0Regs with f := 0x90 })
    (fun t => (t.regs, t.cycles)) =
    some ({ s0Regs with f := 0x80, pc := 0x0201 }, 4) := by decide +kernel
theorem test_add_a_mhl : after (poke (start [0x86] { s0Regs with a := 0x3A, h := 0xC0, l := 0x00, f := 0x00 }) [(0xC000, 0xC6)])
    (fun t => (t.regs, t.cycles)) =
    some ({ s0Regs with a := 0x00, h := 0xC0, l := 0x00, f := 0xB0, pc := 0x0201 }, 8) := by decide +kernel
theorem test_sbc_a_mhl : after (poke (start [0x9E] { s0Regs with a := 0x3B, h := 0xC0, l := 0x00, f := 0x10 }) [(0xC000, 0x4F)])
    (fun t => (t.regs, t.cycles)) =
    some ({ s0Regs with a := 0xEB, h := 0xC0, l := 0x00, f := 0x70, pc := 0x0201 }, 8) := by decide +kernel
theorem test_cp_mhl : after (poke (start [0xBE] { s0Regs with a := 0x10, h := 0xC0, l := 0x00, f := 0x00 }) [(0xC000, 0x01)])
    (fun t => (t.regs, t.cycles)) =
    some ({ s0Regs with a := 0x10, h := 0xC0, l := 0x00, f := 0x60, pc := 0x0201 }, 8) := by decide +kernel
theorem test_inc_mhl : after (poke (start [0x34] { s0Regs with h := 0xC0, l := 0x00, f := 0x10 }) [(0xC000, 0xFF)])
    (fun t => (t.regs, t.cycles, t.memRead 0xC000)) =
    some ({ s0Regs with h := 0xC0, l := 0x00, f := 0xB0, pc := 0x0201 }, 12, 0x00) := by decide +kernel
theorem test_dec_mhl : after (poke (start [0x35] { s0Regs with h := 0xC0, l := 0x00, f := 0x00 }) [(0xC000, 0x00)])
    (fun t => (t.regs, t.cycles, t.memRead 0xC000)) =
    some ({ s0Regs with h := 0xC0, l := 0x00, f := 0x60, pc := 0x0201 }, 12, 0xFF) := by decide +kernel
theorem test_adc_a_n : after (start [0xCE, 0x01] { s0Regs with a := 0xFE, f := 0x10 })
    (fun t => (t.regs, t.cycles)) =
    some ({ s0Regs with a := 0x00, f := 0xB0, pc := 0x0202 }, 8) := by decide +kernel
theorem test_sbc_a_n : after (start [0xDE, 0x01] { s0Regs with a := 0x01, f := 0x10 })
    (fun t => (t.regs, t.cycles)) =
    some ({ s0Regs with a := 0xFF, f := 0x70, pc := 0x0202 }, 8) := by decide +kernel
theorem test_add_a_b : after (start [0x80] { s0Regs with a := 0x3A, b := 0xC6, f := 0x00 })
    (fun t => (t.regs, t.cycles)) =
    some ({ s0Regs with a := 0x00, b := 0xC6, f := 0xB0, pc := 0x0201 }, 4) := by decide +kernel
theorem test_add_a_n : after (start [0xC6, 0x0F] { s0Regs with a := 0x01, f := 0x00 })
    (fun t => (t.regs, t.cycles)) =
    some ({ s0Regs with a := 0x10, f := 0x20, pc := 0x0202 }, 8) := by decide +kernel
theorem test_sub_n : after (start [0xD6, 0x01] { s0Regs with a := 0x00, f := 0x00 })
    (fun t => (t.regs, t.cycles)) =
    some ({ s0Regs with a := 0xFF, f := 0x70, pc := 0x0202 }, 8) := by decide +kernel
theorem test_or_mhl : after (poke (start [0xB6] { s0Regs with a := 0x0F, h := 0xC0, l := 0x00, f := 0xF0 }) [(0xC000, 0xF0)])
    (fun t => (t.regs, t.cycles)) =
    some ({ s0Regs with a := 0xFF, h := 0xC0, l := 0x00, f := 0x00, pc := 0x0201 }, 8) := by decide +kernel
theorem test_xor_mhl : after (poke (start [0xAE] { s0Regs with a := 0xFF, h := 0xC0, l := 0x00, f := 0x00 }) [(0xC000, 0x0F)])
    (fun t => (t.regs, t.cycles)) =
    some ({ s0Regs with a := 0xF0, h := 0xC0, l := 0x00, f := 0x00, pc := 0x0201 }, 8) := by decide +kernel
theorem test_and_mhl : after (poke (start [0xA6] { s0Regs with a := 0xF0, h := 0xC0, l := 0x00, f := 0x00 }) [(0xC000, 0x3C)])
    (fun t => (t.regs, t.cycles)) =
    some ({ s0Regs with a := 0x30, h := 0xC0, l := 0x00, f := 0x20, pc := 0x0201 }, 8) := by decide +kernel

/-! 95_test_vectors section 4: one step each; the whole register file and the report. -/

theorem test_add_hl_de : after (start [0x19] { s0Regs with h := 0xFF, l := 0xFF, d := 0x00, e := 0x01, f := 0x80 })
    (fun t => (t.regs, t.cycles)) =
    some ({ s0Regs with h := 0x00, l := 0x00, d := 0x00, e := 0x01, f := 0xB0, pc := 0x0201 }, 8) := by decide +kernel
theorem test_add_hl_bc : after (start [0x09] { s0Regs with h := 0x0F, l := 0xFF, b := 0x00, c := 0x01, f := 0x00 })
    (fun t => (t.regs, t.cycles)) =
    some ({ s0Regs with h := 0x10, l := 0x00, b := 0x00, c := 0x01, f := 0x20, pc := 0x0201 }, 8) := by decide +kernel
theorem test_inc_bc : after (start [0x03] { s0Regs with b := 0xFF, c := 0xFF, f := 0x00 })
    (fun t => (t.regs, t.cycles)) =
    some ({ s0Regs with b := 0x00, c := 0x00, f := 0x00, pc := 0x0201 }, 8) := by decide +kernel
theorem test_dec_sp : after (start [0x3B] { s0Regs with sp := 0x0000, f := 0xF0 })
    (fun t => (t.regs, t.cycles)) =
    some ({ s0Regs with sp := 0xFFFF, f := 0xF0, pc := 0x0201 }, 8) := by decide +kernel
theorem test_add_sp_e : after (start [0xE8, 0xFF] { s0Regs with sp := 0x0001, f := 0xF0 })
    (fun t => (t.regs, t.cycles)) =
    some ({ s0Regs with sp := 0x0000, f := 0x30, pc := 0x0202 }, 16) := by decide +kernel
theorem test_add_sp_e_2 : after (start [0xE8, 0x08] { s0Regs with sp := 0xFFF8, f := 0x00 })
    (fun t => (t.regs, t.cycles)) =
    some ({ s0Regs with sp := 0x0000, f := 0x30, pc := 0x0202 }, 16) := by decide +kernel
theorem test_ld_hl_sp_e : after (start [0xF8, 0x02] { s0Regs with sp := 0xFFFE, f := 0x80 })
    (fun t => (t.regs, t.cycles)) =
    some ({ s0Regs with sp := 0xFFFE, f := 0x30, h := 0x00, l := 0x00, pc := 0x0202 }, 12) := by decide +kernel
theorem test_ld_hl_sp_e_2 : after (start [0xF8, 0xFE] { s0Regs with sp := 0x0005, f := 0x00 })
    (fun t => (t.regs, t.cycles)) =
    some ({ s0Regs with sp := 0x0005, f := 0x30, h := 0x00, l := 0x03, pc := 0x0202 }, 12) := by decide +kernel

/-! 95_test_vectors section 5: one step each; the whole register file and the report. -/

theorem test_rlca : after (start [0x07] { s0Regs with a := 0x85, f := 0x00 })
    (fun t => (t.regs, t.cycles)) =
    some ({ s0Regs with a := 0x0B, f := 0x10, pc := 0x0201 }, 4) := by decide +kernel
theorem test_rrca : after (start [0x0F] { s0Regs with a := 0x01, f := 0x00 })
    (fun t => (t.regs, t.cycles)) =
    some ({ s0Regs with a := 0x80, f := 0x10, pc := 0x0201 }, 4) := by decide +kernel
theorem test_rla : after (start [0x17] { s0Regs with a := 0x80, f := 0x00 })
    (fun t => (t.regs, t.cycles)) =
    some ({ s0Regs with a := 0x00, f := 0x10, pc := 0x0201 }, 4) := by decide +kernel
theorem test_rra : after (start [0x1F] { s0Regs with a := 0x01, f := 0x10 })
    (fun t => (t.regs, t.cycles)) =
    some ({ s0Regs with a := 0x80, f := 0x10, pc := 0x0201 }, 4) := by decide +kernel
theorem test_rlc_b : after (start [0xCB, 0x00] { s0Regs with b := 0x00, f := 0x10 })
    (fun t => (t.regs, t.cycles)) =
    some ({ s0Regs with b := 0x00, f := 0x80, pc := 0x0202 }, 8) := by decide +kernel
theorem test_rrc_c : after (start [0xCB, 0x09] { s0Regs with c := 0x01, f := 0x00 })
    (fun t => (t.regs, t.cycles)) =
    some ({ s0Regs with c := 0x80, f := 0x10, pc := 0x0202 }, 8) := by decide +kernel
theorem test_rl_d : after (start [0xCB, 0x12] { s0Regs with d := 0x80, f := 0x00 })
    (fun t => (t.regs, t.cycles)) =
    some ({ s0Regs with d := 0x00, f := 0x90, pc := 0x0202 }, 8) := by decide +kernel
theorem test_rr_e : after (start [0xCB, 0x1B] { s0Regs with e := 0x01, f := 0x10 })
    (fun t => (t.regs, t.cycles)) =
    some ({ s0Regs with e := 0x80, f := 0x10, pc := 0x0202 }, 8) := by decide +kernel
theorem test_sla_h : after (start [0xCB, 0x24] { s0Regs with h := 0x80, f := 0x00 })
    (fun t => (t.regs, t.cycles)) =
    some ({ s0Regs with h := 0x00, f := 0x90, pc := 0x0202 }, 8) := by decide +kernel
theorem test_sra_l : after (start [0xCB, 0x2D] { s0Regs with l := 0x81, f := 0x00 })
    (fun t => (t.regs, t.cycles)) =
    some ({ s0Regs with l := 0xC0, f := 0x10, pc := 0x0202 }, 8) := by decide +kernel
theorem test_swap_a : after (start [0xCB, 0x37] { s0Regs with a := 0xF0, f := 0x10 })
    (fun t => (t.regs, t.cycles)) =
    some ({ s0Regs with a := 0x0F, f := 0x00, pc := 0x0202 }, 8) := by decide +kernel
theorem test_srl_b : after (start [0xCB, 0x38] { s0Regs with b := 0x01, f := 0x00 })
    (fun t => (t.regs, t.cycles)) =
    some ({ s0Regs with b := 0x00, f := 0x90, pc := 0x0202 }, 8) := by decide +kernel
theorem test_bit_7_h : after (start [0xCB, 0x7C] { s0Regs with h := 0x7F, f := 0x10 })
    (fun t => (t.regs, t.cycles)) =
    some ({ s0Regs with h := 0x7F, f := 0xB0, pc := 0x0202 }, 8) := by decide +kernel
theorem test_res_0_a : after (start [0xCB, 0x87] { s0Regs with a := 0xFF, f := 0xB0 })
    (fun t => (t.regs, t.cycles)) =
    some ({ s0Regs with a := 0xFE, f := 0xB0, pc := 0x0202 }, 8) := by decide +kernel
theorem test_set_7_b : after (start [0xCB, 0xF8] { s0Regs with b := 0x00, f := 0x00 })
    (fun t => (t.regs, t.cycles)) =
    some ({ s0Regs with b := 0x80, f := 0x00, pc := 0x0202 }, 8) := by decide +kernel
theorem test_rlc_mhl : after (poke (start [0xCB, 0x06] { s0Regs with h := 0xC0, l := 0x00, f := 0x00 }) [(0xC000, 0x80)])
    (fun t => (t.regs, t.cycles, t.memRead 0xC000)) =
    some ({ s0Regs with h := 0xC0, l := 0x00, f := 0x10, pc := 0x0202 }, 16, 0x01) := by decide +kernel
theorem test_rrc_mhl : after (poke (start [0xCB, 0x0E] { s0Regs with h := 0xC0, l := 0x00, f := 0x00 }) [(0xC000, 0x00)])
    (fun t => (t.regs, t.cycles, t.memRead 0xC000)) =
    some ({ s0Regs with h := 0xC0, l := 0x00, f := 0x80, pc := 0x0202 }, 16, 0x00) := by decide +kernel
theorem test_rl_mhl : after (poke (start [0xCB, 0x16] { s0Regs with h := 0xC0, l := 0x00, f := 0x10 }) [(0xC000, 0x00)])
    (fun t => (t.regs, t.cycles, t.memRead 0xC000)) =
    some ({ s0Regs with h := 0xC0, l := 0x00, f := 0x00, pc := 0x0202 }, 16, 0x01) := by decide +kernel
theorem test_rr_mhl : after (poke (start [0xCB, 0x1E] { s0Regs with h := 0xC0, l := 0x00, f := 0x00 }) [(0xC000, 0x01)])
    (fun t => (t.regs, t.cycles, t.memRead 0xC000)) =
    some ({ s0Regs with h := 0xC0, l := 0x00, f := 0x90, pc := 0x0202 }, 16, 0x00) := by decide +kernel
theorem test_sla_mhl : after (poke (start [0xCB, 0x26] { s0Regs with h := 0xC0, l := 0x00, f := 0x00 }) [(0xC000, 0x41)])
    (fun t => (t.regs, t.cycles, t.memRead 0xC000)) =
    some ({ s0Regs with h := 0xC0, l := 0x00, f := 0x00, pc := 0x0202 }, 16, 0x82) := by decide +kernel
theorem test_sra_mhl : after (poke (start [0xCB, 0x2E] { s0Regs with h := 0xC0, l := 0x00, f := 0x00 }) [(0xC000, 0x01)])
    (fun t => (t.regs, t.cycles, t.memRead 0xC000)) =
    some ({ s0Regs with h := 0xC0, l := 0x00, f := 0x90, pc := 0x0202 }, 16, 0x00) := by decide +kernel
theorem test_swap_mhl : after (poke (start [0xCB, 0x36] { s0Regs with h := 0xC0, l := 0x00, f := 0x00 }) [(0xC000, 0x12)])
    (fun t => (t.regs, t.cycles, t.memRead 0xC000)) =
    some ({ s0Regs with h := 0xC0, l := 0x00, f := 0x00, pc := 0x0202 }, 16, 0x21) := by decide +kernel
theorem test_srl_mhl : after (poke (start [0xCB, 0x3E] { s0Regs with h := 0xC0, l := 0x00, f := 0x00 }) [(0xC000, 0x80)])
    (fun t => (t.regs, t.cycles, t.memRead 0xC000)) =
    some ({ s0Regs with h := 0xC0, l := 0x00, f := 0x00, pc := 0x0202 }, 16, 0x40) := by decide +kernel
theorem test_bit_0_mhl : after (poke (start [0xCB, 0x46] { s0Regs with h := 0xC0, l := 0x00, f := 0x50 }) [(0xC000, 0xFE)])
    (fun t => (t.regs, t.cycles)) =
    some ({ s0Regs with h := 0xC0, l := 0x00, f := 0xB0, pc := 0x0202 }, 12) := by decide +kernel
theorem test_res_7_mhl : after (poke (start [0xCB, 0xBE] { s0Regs with h := 0xC0, l := 0x00, f := 0x00 }) [(0xC000, 0xFF)])
    (fun t => (t.regs, t.cycles, t.memRead 0xC000)) =
    some ({ s0Regs with h := 0xC0, l := 0x00, f := 0x00, pc := 0x0202 }, 16, 0x7F) := by decide +kernel
theorem test_set_0_mhl : after (poke (start [0xCB, 0xC6] { s0Regs with h := 0xC0, l := 0x00, f := 0x00 }) [(0xC000, 0x00)])
    (fun t => (t.regs, t.cycles, t.memRead 0xC000)) =
    some ({ s0Regs with h := 0xC0, l := 0x00, f := 0x00, pc := 0x0202 }, 16, 0x01) := by decide +kernel
theorem test_set_3_a : after (start [0xCB, 0xDF] { s0Regs with a := 0x00, f := 0x00 })
    (fun t => (t.regs, t.cycles)) =
    some ({ s0Regs with a := 0x08, f := 0x00, pc := 0x0202 }, 8) := by decide +kernel
theorem test_bit_3_a : after (start [0xCB, 0x5F] { s0Regs with a := 0x08, f := 0x80 })
    (fun t => (t.regs, t.cycles)) =
    some ({ s0Regs with a := 0x08, f := 0x20, pc := 0x0202 }, 8) := by decide +kernel

/-! 95_test_vectors section 6: one step each; the whole register file and the report. -/

theorem test_jp_nn : after (start [0xC3, 0x34, 0x12] s0Regs)
    (fun t => (t.regs, t.cycles)) =
    some ({ s0Regs with pc := 0x1234 }, 16) := by decide +kernel
theorem test_jp_nz_nn : after (start [0xC2, 0x34, 0x12] { s0Regs with f := 0x80 })
    (fun t => (t.regs, t.cycles)) =
    some ({ s0Regs with f := 0x80, pc := 0x0203 }, 12) := by decide +kernel
theorem test_jp_nz_nn_2 : after (start [0xC2, 0x34, 0x12] { s0Regs with f := 0x00 })
    (fun t => (t.regs, t.cycles)) =
    some ({ s0Regs with f := 0x00, pc := 0x1234 }, 16) := by decide +kernel
theorem test_jp_c_nn : after (start [0xDA, 0x00, 0x30] { s0Regs with f := 0x10 })
    (fun t => (t.regs, t.cycles)) =
    some ({ s0Regs with f := 0x10, pc := 0x3000 }, 16) := by decide +kernel
theorem test_jp_hl : after (start [0xE9] { s0Regs with h := 0xC0, l := 0x00 })
    (fun t => (t.regs, t.cycles)) =
    some ({ s0Regs with h := 0xC0, l := 0x00, pc := 0xC000 }, 4) := by decide +kernel
theorem test_jr_e : after (start [0x18, 0xFE] s0Regs)
    (fun t => (t.regs, t.cycles)) =
    some ({ s0Regs with pc := 0x0200 }, 12) := by decide +kernel
theorem test_jr_e_2 : after (start [0x18, 0x7F] s0Regs)
    (fun t => (t.regs, t.cycles)) =
    some ({ s0Regs with pc := 0x0281 }, 12) := by decide +kernel
theorem test_jr_z_e : after (start [0x28, 0x05] { s0Regs with f := 0x00 })
    (fun t => (t.regs, t.cycles)) =
    some ({ s0Regs with f := 0x00, pc := 0x0202 }, 8) := by decide +kernel
theorem test_jr_nc_e : after (start [0x30, 0x05] { s0Regs with f := 0x00 })
    (fun t => (t.regs, t.cycles)) =
    some ({ s0Regs with f := 0x00, pc := 0x0207 }, 12) := by decide +kernel
theorem test_call_nn : after (start [0xCD, 0x00, 0x30] { s0Regs with sp := 0xD000 })
    (fun t => (t.regs, t.cycles, t.memRead 0xCFFF, t.memRead 0xCFFE)) =
    some ({ s0Regs with sp := 0xCFFE, pc := 0x3000 }, 24, 0x02, 0x03) := by decide +kernel
theorem test_call_nc_nn : after (start [0xD4, 0x00, 0x30] { s0Regs with sp := 0xD000, f := 0x10 })
    (fun t => (t.regs, t.cycles)) =
    some ({ s0Regs with sp := 0xD000, f := 0x10, pc := 0x0203 }, 12) := by decide +kernel
theorem test_ret : after (poke (start [0xC9] { s0Regs with sp := 0xCFFE }) [(0xCFFE, 0x03), (0xCFFF, 0x02)])
    (fun t => (t.regs, t.cycles)) =
    some ({ s0Regs with sp := 0xD000, pc := 0x0203 }, 16) := by decide +kernel
theorem test_ret_z : after (poke (start [0xC8] { s0Regs with sp := 0xCFFE, f := 0x80 }) [(0xCFFE, 0x03), (0xCFFF, 0x02)])
    (fun t => (t.regs, t.cycles)) =
    some ({ s0Regs with sp := 0xD000, f := 0x80, pc := 0x0203 }, 20) := by decide +kernel
theorem test_ret_z_2 : after (poke (start [0xC8] { s0Regs with sp := 0xCFFE, f := 0x00 }) [(0xCFFE, 0x03), (0xCFFF, 0x02)])
    (fun t => (t.regs, t.cycles)) =
    some ({ s0Regs with sp := 0xCFFE, f := 0x00, pc := 0x0201 }, 8) := by decide +kernel
theorem test_reti : after (poke (start [0xD9] { s0Regs with sp := 0xCFFE }) [(0xCFFE, 0x03), (0xCFFF, 0x02)])
    (fun t => (t.regs, t.cycles, t.ime)) =
    some ({ s0Regs with sp := 0xD000, pc := 0x0203 }, 16, true) := by decide +kernel
theorem test_rst_38h : after (start [0xFF] { s0Regs with sp := 0xD000 })
    (fun t => (t.regs, t.cycles, t.memRead 0xCFFF, t.memRead 0xCFFE)) =
    some ({ s0Regs with sp := 0xCFFE, pc := 0x0038 }, 16, 0x02, 0x01) := by decide +kernel
theorem test_rst_00h : after (start [0xC7] { s0Regs with sp := 0xD000 })
    (fun t => (t.regs, t.cycles, t.memRead 0xCFFF, t.memRead 0xCFFE)) =
    some ({ s0Regs with sp := 0xCFFE, pc := 0x0000 }, 16, 0x02, 0x01) := by decide +kernel

/-! 95_test_vectors sections 7 and 8: system instructions, interrupts, HALT and the enable delay. -/

theorem test_nop : after (start [0x00] s0Regs) (fun t => (t.regs, t.cycles)) =
    some ({ s0Regs with pc := 0x0201 }, 4) := by decide +kernel
theorem test_di : after { start [0xF3] s0Regs with ime := true } (fun t => (t.ime, t.regs.pc, t.cycles)) =
    some (false, 0x0201, 4) := by decide +kernel
theorem test_ei : after (start [0xFB] s0Regs) (fun t => (t.ime, t.eiDelay, t.regs.pc)) =
    some (false, 1, 0x0201) := by decide +kernel
theorem test_stop : after (poke (start [0x10, 0x00] s0Regs) [])
    (fun t => (t.run, t.regs.pc, t.timer.div, t.cycles)) = some (.stopped, 0x0202, 0x01, 4) := by decide +kernel
theorem test_illegal_locks :
    afterN 2 { start [0xD3, 0x3C] s0Regs with ie := 0x01, ifReg := 1 }
      (fun t => (t.run, t.regs, t.ifReg, t.cycles)) = some (.locked, { s0Regs with pc := 0x0201 }, 1, 4) := by
  decide +kernel
theorem test_halt_sleeps : after { start [0x76] s0Regs with ie := 0x04 } (fun t => (t.run, t.regs.pc)) =
    some (.halted, 0x0201) := by decide +kernel
theorem test_halt_wakes_and_dispatches :
    after { start [0x76] { s0Regs with sp := 0xD000, pc := 0x0201 } with
              ime := true, ie := 0x01, ifReg := 1, run := .halted }
      (fun t => (t.regs.pc, t.memRead 0xCFFF, t.memRead 0xCFFE, t.run, t.cycles)) =
      some (0x0040, 0x02, 0x01, .running, 20) := by decide +kernel
/-- 8.1: EI; DI never dispatches. -/
theorem test_ei_di : afterN 3 { start [0xFB, 0xF3, 0x00] { s0Regs with sp := 0xD000 } with ie := 1, ifReg := 1 }
    (fun t => (t.regs.pc, t.ime, t.eiDelay, t.ifReg)) = some (0x0203, false, 0, 1) := by decide +kernel
/-- 8.2: EI; EI; the dispatch comes third. -/
theorem test_ei_ei : afterN 3 { start [0xFB, 0xFB] { s0Regs with sp := 0xD000 } with ie := 1, ifReg := 1 }
    (fun t => (t.regs.pc, t.ime, t.ifReg, t.memRead 0xCFFF, t.memRead 0xCFFE, t.cycles)) =
    some (0x0040, false, 0, 0x02, 0x02, 20) := by decide +kernel
/-- 8.3: the halt bug. -/
theorem test_halt_bug_1 : afterN 2 { start [0x76, 0x3C] { s0Regs with a := 0 } with ie := 1, ifReg := 1 }
    (fun t => (t.regs.pc, t.regs.a, t.haltBug, t.run)) = some (0x0201, 0x01, false, .running) := by decide +kernel
theorem test_halt_bug_2 : afterN 3 { start [0x76, 0x3C] { s0Regs with a := 0 } with ie := 1, ifReg := 1 }
    (fun t => (t.regs.pc, t.regs.a)) = some (0x0202, 0x02) := by decide +kernel
/-- 8.4: EI; HALT with a request pending pushes the HALT's address. -/
theorem test_ei_halt : afterN 3 { start [0xFB, 0x76] { s0Regs with sp := 0xD000 } with ie := 1, ifReg := 1 }
    (fun t => (t.regs.pc, t.ime, t.haltBug, t.memRead 0xCFFF, t.memRead 0xCFFE)) =
    some (0x0040, false, false, 0x02, 0x01) := by decide +kernel
/-- 8.5: priority, and IE's upper bits. -/
theorem test_priority : after { start [0x00] { s0Regs with sp := 0xD000 } with ime := true, ie := 0x1C, ifReg := 0x1F }
    (fun t => (t.regs.pc, t.ifReg, t.memRead 0xCFFF, t.memRead 0xCFFE, t.cycles)) =
    some (0x0050, 0x1B, 0x02, 0x00, 20) := by decide +kernel
theorem test_ie_upper_bits : after { start [0x00] s0Regs with ime := true, ie := 0xE0, ifReg := 0x1F }
    (fun t => (t.regs.pc, t.ime, t.cycles)) = some (0x0201, true, 4) := by decide +kernel
/-- 8.5, last row: the push writes IE after the vector is fixed. -/
theorem test_dispatch_push_ie :
    after { start [0x00] { s0Regs with sp := 0x0001 } with ime := true, ie := 0x01, ifReg := 0x01 }
      (fun t => (t.regs.pc, t.regs.sp, t.ie, t.ifReg)) = some (0x0040, 0xFFFF, 0x00, 0) := by decide +kernel
/-- 8.6: HALT woken by the timer, IME = 1. -/
theorem test_halt_timer :
    afterN 6 (poke { start [0x76, 0x3C] { s0Regs with sp := 0xD000 } with ime := true, ie := 0x04 }
      [(0xFF07, 0x05), (0xFF05, 0xFF)])
      (fun t => (t.regs.pc, t.ifReg, t.memRead 0xCFFF, t.memRead 0xCFFE, t.cycles)) =
      some (0x0050, 0, 0x02, 0x01, 20) := by decide +kernel

/-! 95_test_vectors section 9: the peripherals, the bus devices, the bank controllers, the host's calls. -/

/-- 9.1: TIMA written inside the reload window cancels the reload; TMA written there is what is reloaded. -/
theorem test_reload_cancelled :
    afterN 4 (poke (start [0x3E, 0x33, 0x00, 0x00, 0xE0, 0x05] s0Regs) [(0xFF07, 0x05), (0xFF05, 0xFF), (0xFF06, 0x80)])
      (fun t => (t.timer.tima, t.timer.reloadPending, t.ifReg)) = some (0x33, 0, 0) := by decide +kernel
theorem test_reload_new_tma :
    afterN 4 (poke (start [0x3E, 0x33, 0x00, 0x00, 0xE0, 0x06] s0Regs) [(0xFF07, 0x05), (0xFF05, 0xFF), (0xFF06, 0x80)])
      (fun t => (t.timer.tima, t.timer.tma, t.ifReg)) = some (0x33, 0x33, 0b00100) := by decide +kernel
theorem test_div_write : after (start [0xE0, 0x04] s0Regs) (fun t => t.timer.div) = some 0x03 := by decide +kernel
/-- 9.3: a STAT write raises the line; the LCD off and on. -/
theorem test_stat_write : afterN 2 (start [0x3E, 0x40, 0xE0, 0x41] s0Regs) (fun t => t.ifReg.getLsbD 1) =
    some true := by decide +kernel
theorem test_lcd_off : afterN 2 (start [0x3E, 0x11, 0xE0, 0x40] s0Regs)
    (fun t => (t.ppu.ly, t.ppu.dot, t.memRead 0xFF41)) = some (0, 0, 0x84) := by decide +kernel
theorem test_lcd_on : afterN 4 (start [0x3E, 0x11, 0xE0, 0x40, 0x3E, 0x91, 0xE0, 0x40] s0Regs)
    (fun t => (t.ppu.dot, t.memRead 0xFF41)) = some (12, 0x86) := by decide +kernel
/-- 9.4: background, and object over background, on columns 0 to 15 of row 0. -/
def rowOf (s : State) (n : Nat) : List (BitVec 2) :=
  let p := s.ppu
  (List.range n).map (pixelShade p s.mem.vram (byPriority (selectObjects p s.mem.oam 0)) 0)
theorem test_background :
    rowOf (poke (start [] s0Regs) [(0xFF47, 0xE4), (0x8000, 0x55), (0x8001, 0x33)]) 12 =
      [0, 1, 2, 3, 0, 1, 2, 3, 0, 1, 2, 3] := by decide +kernel
theorem test_object_over_background :
    rowOf (poke (start [] s0Regs) [(0xFF47, 0xE4), (0x8000, 0x55), (0x8001, 0x33), (0xFF40, 0x93), (0xFE00, 0x10),
      (0xFE01, 0x08), (0xFE02, 0x01), (0x8010, 0xFF), (0xFF48, 0x1C)]) 12 =
      [3, 3, 3, 3, 3, 3, 3, 3, 0, 1, 2, 3] := by decide +kernel
theorem test_object_behind :
    rowOf (poke (start [] s0Regs) [(0xFF47, 0xE4), (0x8000, 0x55), (0x8001, 0x33), (0xFF40, 0x93), (0xFE00, 0x10),
      (0xFE01, 0x08), (0xFE02, 0x01), (0xFE03, 0x80), (0x8010, 0xFF), (0xFF48, 0x1C)]) 12 =
      [3, 1, 2, 3, 3, 1, 2, 3, 0, 1, 2, 3] := by decide +kernel
theorem test_window :
    (let p := (poke (start [] s0Regs) [(0xFF47, 0xE4), (0x8000, 0x55), (0x8001, 0x33), (0xFF40, 0xF1), (0xFF4B, 0x57),
        (0x9C00, 0x02), (0x8020, 0xFF), (0x8021, 0xFF)])
     ([78, 79, 80, 87].map (pixelShade p.ppu p.mem.vram [] 0), windowUsed p.ppu 0)) = ([2, 3, 3, 3], true) := by decide +kernel
/-- 9.5: devices. -/
theorem test_if_read : ({ start [] s0Regs with ifReg := 1 } : State).memRead 0xFF0F = 0xE1 := by decide +kernel
theorem test_dma : (poke (start [] s0Regs) [(0xC000, 0x11), (0xC09F, 0x9F), (0xFF46, 0xC0)]).mem.oam =
    [(0, 0x11), (159, 0x9F)] := by decide +kernel
theorem test_button_press :
    (let t := (start [] s0Regs).setButtonState .a true; (t.memRead 0xFF00, t.ifReg)) = (0xCE, 0b10000) := by decide +kernel
theorem test_row_select :
    (let t := State.memWrite { (start [] s0Regs).setButtonState .a true with ifReg := 0 } 0xFF00 0x20
     (t.memRead 0xFF00, t.ifReg, (t.memWrite 0xFF00 0x10).memRead 0xFF00, (t.memWrite 0xFF00 0x10).ifReg)) =
      (0xEF, 0, 0xDE, 0b10000) := by decide +kernel
theorem test_serial : (poke (start [] s0Regs) [(0xFF02, 0x81)]).memRead 0xFF02 = 0xFF := by decide +kernel

/-- 9.6: images whose banks' first bytes name them. -/
def mbc1 : State := withCart (cartOf (.mbc1 false 1 0 false) 128 32768
  [(0x4000, 1), (0x14000, 5), (0x7C000, 0x1F), (0x80000, 0x20), (0x84000, 0x21)])
theorem test_mbc1_zero : (mbc1.memRead 0x4000, (poke mbc1 [(0x2000, 0x20)]).memRead 0x4000,
    (poke mbc1 [(0x2000, 0xE5)]).memRead 0x4000) = (0x01, 0x01, 0x05) := by decide +kernel
theorem test_mbc1_mode :
    (let t := poke mbc1 [(0x4000, 0x01), (0x2000, 0x00), (0x6000, 0x01), (0x0000, 0x1A), (0xA000, 0x77)]
     (t.memRead 0x0000, t.memRead 0x4000, t.memRead 0xA000, t.mem.cart.map (·.xram))) =
      (0x20, 0x21, 0x77, some [(0x2000, 0x77)]) := by decide +kernel
theorem test_mbc2 :
    (let t := poke (withCart (cartOf (.mbc2 false 1) 16 512 [(0xC000, 3)]))
        [(0x2100, 0x03), (0x2000, 0x0A), (0xA000, 0xAB)]
     (t.memRead 0x4000, t.memRead 0xA000, t.memRead 0xA200, t.memRead 0xA001)) = (0x03, 0xFB, 0xFB, 0xF0) := by decide +kernel
theorem test_mbc3 :
    (let t := poke (withCart (cartOf (.mbc3 false 1 0) 128 32768 []))
        [(0x0000, 0x0A), (0x4000, 0x02), (0xA000, 0x77), (0x4000, 0x08)]
     (t.memRead 0xA000, (poke t [(0x4000, 0x06)]).memRead 0xA000, t.mem.cart.map (·.xram))) =
      (0xFF, 0x77, some [(0x4000, 0x77)]) := by decide +kernel
theorem test_mbc5 :
    (let t := poke (withCart (cartOf (.mbc5 false 1 0) 512 131072 [(0x4000, 1), (0x7FC000, 0xFF)])) [(0x2000, 0x00)]
     (t.memRead 0x4000, (poke t [(0x3000, 0x01), (0x2000, 0xFF)]).memRead 0x4000,
      (poke t [(0x0000, 0x0A), (0x4000, 0x1F), (0xA000, 0x44)]).mem.cart.map (·.xram))) =
      (0x00, 0xFF, some [(0x1E000, 0x44)]) := by decide +kernel

/-! 9.7: image loading. An image is zeros but for its three header bytes. -/

/-- `n` bytes, of which 0x0147 to 0x0149 are the type, the ROM code and the RAM code. -/
def image (n : Nat) (ty r ram : Byte) : List Byte :=
  List.replicate 0x0147 0 ++ ([ty, r, ram] ++ List.replicate (n - 0x014A) 0)
theorem image_length {n : Nat} (ty r ram : Byte) (h : 0x014A ≤ n) : (image n ty r ram).length = n := by
  simp only [image, List.length_append, List.length_replicate, List.length_cons, List.length_nil]; omega
theorem image_header (n : Nat) (ty r ram : Byte) : (image n ty r ram).getD 0x0147 0 = ty ∧
    (image n ty r ram).getD 0x0148 0 = r ∧ (image n ty r ram).getD 0x0149 0 = ram := by
  have h : ∀ j, (image n ty r ram).getD (0x0147 + j) 0 =
      ([ty, r, ram] ++ List.replicate (n - 0x014A) 0).getD j 0 := by
    intro j
    have e := List.getD_append_right (List.replicate 0x0147 (0 : Byte))
      ([ty, r, ram] ++ List.replicate (n - 0x014A) 0) 0 (0x0147 + j)
      (by rw [List.length_replicate]; omega)
    rw [List.length_replicate, Nat.add_sub_cancel_left] at e
    exact e
  exact ⟨h 0, h 1, h 2⟩
/-- What `load_image` answers on such an image, from its size and header alone. -/
theorem image_verdict {n : Nat} (ty r ram : Byte) (h : 0x0150 ≤ n) :
    cartOfImage (image n ty r ram) =
      (match mbcOfType ty with
      | none => none
      | some m =>
        if 8 < r.toNat ∨ m.maxRomCode < r.toNat then none
        else if n ≠ 0x8000 * 2 ^ r.toNat then none
        else
          match ramSizeOfCode ram with
          | none => none
          | some k =>
            some { mbc := m, nrom := 2 * 2 ^ r.toNat, ramSize := m.ramSize k
                   rom := Cells.ofList 0 (image n ty r ram), xram := [] }) := by
  obtain ⟨h1, h2, h3⟩ := image_header n ty r ram
  have hl := image_length ty r ram (n := n) (by omega)
  unfold cartOfImage
  rewrite [h1, h2, h3, hl, if_neg (by omega)]
  rfl
/-- Whether an image of this size and header is accepted. -/
theorem load_accepts {n : Nat} (ty r ram : Byte) (h : 0x0150 ≤ n) {m : Mbc} {k : Nat} (hm : mbcOfType ty = some m)
    (hr : ¬ (8 < r.toNat ∨ m.maxRomCode < r.toNat)) (hn : n = 0x8000 * 2 ^ r.toNat)
    (hk : ramSizeOfCode ram = some k) (s : State) : (s.loadImage (image n ty r ram)).result = .ok () := by
  have hv := image_verdict ty r ram h
  simp only [hm, hk] at hv
  rw [if_neg hr, if_neg (by simpa using hn)] at hv
  unfold State.loadImage; rw [hv]
theorem test_load_short (s : State) : (s.loadImage (List.replicate 0x014F 0)).result = .error .imageFormat := by
  have h : cartOfImage (List.replicate 0x014F 0) = none := by
    unfold cartOfImage; rw [if_pos (by rw [List.length_replicate]; omega)]
  unfold State.loadImage; rw [h]
theorem test_load_bad_type (s : State) : (s.loadImage (image 0x8000 0x0F 0 0)).result = .error .imageFormat := by
  have h : cartOfImage (image 0x8000 0x0F 0 0) = none := image_verdict 0x0F 0 0 (by omega)
  unfold State.loadImage; rw [h]
theorem test_load_bad_ram (s : State) : (s.loadImage (image 0x8000 0x01 0 6)).result = .error .imageFormat := by
  have h : cartOfImage (image 0x8000 0x01 0 6) = none := image_verdict 0x01 0 6 (by omega)
  unfold State.loadImage; rw [h]
theorem test_load_bad_length (s : State) : (s.loadImage (image 0x10000 0x01 2 0)).result = .error .imageFormat := by
  have h : cartOfImage (image 0x10000 0x01 2 0) = none := image_verdict 0x01 2 0 (by omega)
  unfold State.loadImage; rw [h]
theorem test_load_bad_code (s : State) : (s.loadImage (image 0x10000 0x00 1 0)).result = .error .imageFormat := by
  have h : cartOfImage (image 0x10000 0x00 1 0) = none := image_verdict 0x00 1 0 (by omega)
  unfold State.loadImage; rw [h]

/-! Witnesses: for each statement with hypotheses, states and operands that meet all of them, at the boundaries of
each clause. -/

/-- An accepted image for each controller, at its smallest and largest ROM code (R93, R440). -/
theorem witness_LoadSuccessInstallsImage (s : State) :
    (s.loadImage (image 0x8000 0x00 0 0)).result = .ok () ∧
    (s.loadImage (image 0x8000 0x01 0 5)).result = .ok () ∧
    (s.loadImage (image 0x200000 0x03 6 2)).result = .ok () ∧
    (s.loadImage (image 0x8000 0x05 0 3)).result = .ok () ∧
    (s.loadImage (image 0x40000 0x06 3 0)).result = .ok () ∧
    (s.loadImage (image 0x8000 0x11 0 1)).result = .ok () ∧
    (s.loadImage (image 0x200000 0x13 6 3)).result = .ok () ∧
    (s.loadImage (image 0x8000 0x19 0 0)).result = .ok () ∧
    (s.loadImage (image 0x800000 0x1B 8 4)).result = .ok () :=
  ⟨load_accepts _ _ _ (by decide) rfl (by decide) (by decide) rfl s,
   load_accepts _ _ _ (by decide) rfl (by decide) (by decide) rfl s,
   load_accepts _ _ _ (by decide) rfl (by decide) (by decide) rfl s,
   load_accepts _ _ _ (by decide) rfl (by decide) (by decide) rfl s,
   load_accepts _ _ _ (by decide) rfl (by decide) (by decide) rfl s,
   load_accepts _ _ _ (by decide) rfl (by decide) (by decide) rfl s,
   load_accepts _ _ _ (by decide) rfl (by decide) (by decide) rfl s,
   load_accepts _ _ _ (by decide) rfl (by decide) (by decide) rfl s,
   load_accepts _ _ _ (by decide) rfl (by decide) (by decide) rfl s⟩

/-- The condition of R440 met and not met. -/
theorem witness_LoadFailureChangesNothing :
    (0x0150 ≤ (image 0x8000 0x00 0 5).length ∧ (image 0x8000 0x00 0 5).getD 0x0147 0 = 0x00 ∧
      (image 0x8000 0x00 0 5).length = 0x8000 * 2 ^ ((image 0x8000 0x00 0 5).getD 0x0148 0).toNat ∧
      ((image 0x8000 0x00 0 5).getD 0x0149 0).toNat ≤ 5) ∧
    ¬ 0x0150 ≤ ([] : List Byte).length := by
  obtain ⟨h1, h2, h3⟩ := image_header 0x8000 0x00 0 5
  have hl := image_length 0x00 0 5 (n := 0x8000) (by omega)
  rw [h1, h2, h3, hl]; decide

/-- A Config with a boot ROM and one for the other revision, both accepted; one that is refused. -/
def bootConfig : Config := { bootRom := some (List.replicate 256 0x5A) }
theorem witness_ResetCpuValues :
    Config.default.hasBoot = false ∧ bootConfig.hasBoot = true ∧ Config.default.revision = .dmg ∧
    ({ revision := .mgb } : Config).revision = .mgb ∧
    construct bootConfig = .ok (State.powerOn bootConfig none) :=
  ⟨rfl, rfl, rfl, rfl, if_pos (by decide +kernel)⟩

/-- A cartridge of each kind with registers off their power-on values. -/
def carts : List Cart :=
  [ cartOf .noController 2 8192 [(0x4000, 9)], cartOf (.mbc1 true 5 3 true) 4 32768 [(0x4000, 9)],
    cartOf (.mbc2 true 5) 4 512 [(0x4000, 9)], cartOf (.mbc3 true 5 7) 4 32768 [(0x4000, 9)],
    cartOf (.mbc5 true 0x105 3) 4 32768 [(0x4000, 9)] ]
theorem witness_ResetKeepsCartridge : carts.map (fun k => (withCart k).resetCall.mem.cart.map (·.mbc)) =
    [ some .noController, some (.mbc1 false 1 0 false), some (.mbc2 false 1), some (.mbc3 false 1 0),
      some (.mbc5 false 1 0) ] := by decide +kernel

theorem witness_EncodeDecodeRoundTrip : (Instr.ldBCNN 0xFFFF).wellFormed = true ∧
    decode (encode (.ldBCNN 0xFFFF) ++ [0x11]) = .ok (.ldBCNN 0xFFFF, [0x11]) := ⟨rfl, rfl⟩
theorem witness_DecodedBytesAreTheEncoding : decode [0x01, 0x34, 0x12, 0x99] = .ok (.ldBCNN 0x1234, [0x99]) := rfl

theorem witness_StepRunsDecodedInstruction :
    (start [0x3E, 0x5A] s0Regs).run = .running ∧ (start [0x3E, 0x5A] s0Regs).haltBug = false ∧
    (start [0x3E, 0x5A] s0Regs).ime = false ∧
    ({ start [0x3E, 0x5A] s0Regs with ime := true } : State).pendingMask = 0 ∧
    decode3 ((start [0x3E, 0x5A] s0Regs).memRead 0x0200) ((start [0x3E, 0x5A] s0Regs).memRead 0x0201)
      ((start [0x3E, 0x5A] s0Regs).memRead 0x0202) = some (.ldAN 0x5A) := by decide +kernel
theorem witness_HaltBugFetchesTwice :
    ({ start [0x3E, 0x5A] s0Regs with haltBug := true } : State).run = .running ∧
    ({ start [0x3E, 0x5A] s0Regs with haltBug := true } : State).pendingMask = 0 ∧
    decode3 ((start [0x3E, 0x5A] s0Regs).memRead 0x0200) ((start [0x3E, 0x5A] s0Regs).memRead 0x0200)
      ((start [0x3E, 0x5A] s0Regs).memRead 0x0201) = some (.ldAN 0x3E) := by decide +kernel
theorem witness_IllegalOpcodeLocks :
    (start [0xFD] s0Regs).run = .running ∧ (start [0xFD] s0Regs).haltBug = false ∧ (start [0xFD] s0Regs).ime = false ∧
    (start [0xFD] s0Regs).memRead 0x0200 = 0xFD ∧ ({ start [0x00] s0Regs with run := .locked } : State).run = .locked ∧
    afterN 3 { start [0x00] s0Regs with run := .locked } (fun t => (t.run, t.cycles)) = some (.locked, 4) := by
  decide +kernel
/-- With HALT_BUG set, PC stays at the illegal byte and the flag is cleared (R121, R316). -/
theorem witness_IllegalOpcodeLocks_haltBug :
    after { start [0xD3] s0Regs with haltBug := true } (fun t => (t.run, t.regs.pc, t.haltBug, t.cycles)) =
      some (.locked, 0x0200, false, 4) ∧
    after (start [0xD3] s0Regs) (fun t => (t.run, t.regs.pc, t.cycles)) = some (.locked, 0x0201, 4) := by decide +kernel

/-- A state of each power state, asleep and woken. -/
def asleep (r : RunState) (p1 : BitVec 2) (b : Buttons) (f : BitVec 5) : State :=
  { start [0x00] s0Regs with
    run := r, ie := 0x04, ifReg := f, joypad := { buttons := b, p1Sel := p1, p1LowPrev := 0xF } }
theorem witness_PowerStatesIdleAndWake :
    (asleep .halted 0 {} 0).pendingMask = 0 ∧ (asleep .halted 0 {} 0b00100).pendingMask ≠ 0 ∧
    (asleep .stopped 0 {} 0).joypad.low = 0xF ∧ (asleep .stopped 0 { start := true } 0).joypad.low ≠ 0xF ∧
    after (asleep .halted 0 {} 0b00100) (fun t => (t.run, t.regs.pc)) = some (.running, 0x0201) ∧
    after (asleep .stopped 0 { start := true } 0) (fun t => (t.run, t.regs.pc)) = some (.running, 0x0201) ∧
    after (asleep .stopped 0 {} 0) (fun t => (t.run, t.regs.pc, t.cycles)) = some (.stopped, 0x0200, 4) := by
  decide +kernel

/-- The lowest and the highest source alone, and none. -/
theorem witness_PendingIsLowestEnabledRequest :
    ({ start [] s0Regs with ie := 0xFF, ifReg := 0x1F } : State).pending = some .vblank ∧
    ({ start [] s0Regs with ie := 0x10, ifReg := 0x1F } : State).pending = some .joypad ∧
    ({ start [] s0Regs with ie := 0xE0, ifReg := 0x1F } : State).pending = none := by decide +kernel
theorem witness_DispatchTakesInterrupt :
    ({ start [0x00] s0Regs with ime := true, ie := 0x10, ifReg := 0x10 } : State).run = .running ∧
    ({ start [0x00] s0Regs with ime := true, ie := 0x10, ifReg := 0x10 } : State).pending = some .joypad ∧
    after { start [0x00] { s0Regs with sp := 0xD000 } with ime := true, ie := 0x10, ifReg := 0x10, haltBug := true }
      (fun t => (t.regs.pc, t.haltBug, t.memRead 0xCFFF, t.memRead 0xCFFE)) =
      some (0x0060, false, 0x01, 0xFF) := by decide +kernel
theorem witness_EnableTakesEffectAfterNextInstruction :
    (∃ t, exec .nop { start [0x00] s0Regs with eiDelay := 1 } = .next t) ∧
    (∃ t, exec .di { start [0x00] s0Regs with eiDelay := 1 } = .next t) ∧
    (∃ t, exec .ei { start [0x00] s0Regs with eiDelay := 0 } = .next t) ∧
    (∃ t, exec .reti { start [0x00] s0Regs with eiDelay := 0 } = .next t) ∧
    after { start [0x00] s0Regs with eiDelay := 1 } (fun t => t.ime) = some true ∧
    after (start [0xD9] s0Regs) (fun t => t.ime) = some true :=
  ⟨⟨_, rfl⟩, ⟨_, rfl⟩, ⟨_, rfl⟩, ⟨_, rfl⟩, by decide +kernel, by decide +kernel⟩

/-- A row of each list that a statement quantifies over. -/
theorem witness_rows_load : (.ldAL, .a, .l) ∈ ldRegRegRows ∧ (.ldAN 1, .a) ∈ ldRegImmRows 1 ∧
    (.ldAMemHL, .a) ∈ ldRegMemRows ∧ (.ldhAMemN 1, .high 1, 12, [0xF0, 1]) ∈ ldAMemRows 1 2 ∧
    (.ldMemHLA, .a) ∈ ldMemRegRows ∧ (.ldhMemNA 1, .high 1, 12, [0xE0, 1]) ∈ ldMemARows 1 2 := by decide +kernel
theorem witness_rows_alu :
    (.adcAN 1, .adc, .imm 1, 8, [0xCE, 1]) ∈ addRows 1 ∧ (.cpN 1, .cp, .imm 1, 8, [0xFE, 1]) ∈ subRows 1 ∧
    (.orN 1, .or, .imm 1, 8, [0xF6, 1]) ∈ logicRows 1 := by decide +kernel
theorem witness_rows_alu_more : (.incA, .a) ∈ incRegRows ∧ (.decA, .a) ∈ decRegRows ∧
    (.addHLSP, .sp) ∈ addHlRows ∧ (.incSP, .sp) ∈ incPairRows ∧ (.decSP, .sp) ∈ decPairRows := by decide +kernel
theorem witness_rows_bits :
    (.srlA, .srl, .a) ∈ shiftRegRows ∧ (.srlMemHL, .srl) ∈ shiftMemRows ∧ (.bit7A, 7, .a) ∈ bitRegRows ∧
    (.bit7MemHL, 7) ∈ bitMemRows ∧ (.res7A, 7, .a) ∈ resRegRows ∧ (.res7MemHL, 7) ∈ resMemRows ∧
    (.set7A, 7, .a) ∈ setRegRows ∧ (.set7MemHL, 7) ∈ setMemRows := by decide +kernel

/-- Flags that make each condition hold and fail. -/
theorem witness_JumpsAndConditions :
    (.jpCNN 2, .c) ∈ jpCondRows 2 ∧ (.jrCE8 2, .c) ∈ jrCondRows 2 ∧
    [Cond.nz, .z, .nc, .c].map (start [] { s0Regs with f := 0x90 }).cond = [false, true, false, true] ∧
    [Cond.nz, .z, .nc, .c].map (start [] { s0Regs with f := 0x00 }).cond = [true, false, true, false] := by decide +kernel
theorem witness_CallsAndRestarts : (.callCNN 2, .c) ∈ callCondRows 2 ∧ (.rst38, 7) ∈ rstRows ∧
    (start [] { s0Regs with f := 0x10 }).cond .c = true ∧ (start [] { s0Regs with f := 0xE0 }).cond .c = false := by
  decide +kernel
theorem witness_Returns : (.retC, .c) ∈ retCondRows ∧ (start [] { s0Regs with f := 0x80 }).cond .z = true ∧
    (start [] { s0Regs with f := 0x70 }).cond .z = false := by decide +kernel
theorem witness_SystemInstructions :
    ({ start [] s0Regs with ime := true, ie := 1, ifReg := 1 } : State).ime = true ∧
    ({ start [] s0Regs with ie := 1 } : State).pendingMask = 0 ∧
    ({ start [] s0Regs with ie := 1, ifReg := 1 } : State).pendingMask ≠ 0 ∧
    (start [] s0Regs).ime = false ∧ (start [] s0Regs).eiDelay = 0 ∧
    ({ start [] s0Regs with eiDelay := 1 } : State).eiDelay ≠ 0 := by decide +kernel

/-- Both ends of each range: what was written reads back, the echo reads and writes WRAM, the hole does neither. -/
theorem witness_PlainMemoryReadsBack :
    (start [] s0Regs).mem.wf = true ∧
    ([0x8000, 0x9FFF, 0xC000, 0xDFFF, 0xE000, 0xFDFF, 0xFE00, 0xFE9F, 0xFF80, 0xFFFE, 0xFFFF] : List Word).map
      (fun a => ((start [] s0Regs).memWrite a 0x5A).memRead a) = List.replicate 11 0x5A ∧
    ([0xC000, 0xDDFF] : List Word).map (fun a => ((start [] s0Regs).memWrite a 0x5A).memRead (a + 0x2000)) =
      [0x5A, 0x5A] ∧
    ([0xFEA0, 0xFEFF] : List Word).map (fun a => ((start [] s0Regs).memWrite a 0x5A).memRead a) = [0xFF, 0xFF] := by
  decide +kernel
theorem witness_WriteTouchesOnlyItsBytes :
    (start [] s0Regs).touches 0xC000 0xC001 = false ∧ (start [] s0Regs).touches 0xC000 0xE000 = true ∧
    (start [] s0Regs).touches 0xFF46 0xFEA0 = false ∧ (start [] s0Regs).touches 0xFF40 0xFF45 = false ∧
    (start [] s0Regs).mem.cart.isSome = true ∧ State.reset.mem.cart = none := by decide +kernel
theorem witness_IoRegistersReadBack :
    (start [] s0Regs).mem.wf = true ∧
    ([0xFF10, 0xFF3F, 0xFF46, 0xFF01] : List Word).map (fun a => ((start [] s0Regs).memWrite a 0x5A).memRead a) =
      List.replicate 4 0x5A ∧
    ([0xFF03, 0xFF08, 0xFF0E, 0xFF4C, 0xFF4F, 0xFF51, 0xFF7F] : List Word).map
      (fun a => ((start [] s0Regs).memWrite a 0x5A).memRead a) = List.replicate 7 0xFF ∧
    (((start [] s0Regs).memWrite 0xFF00 0xFF).memRead 0xFF00, ((start [] s0Regs).memWrite 0xFF00 0).memRead 0xFF00) =
      (0xFF, 0xCF) ∧
    ([0xFF02, 0xFF04, 0xFF07, 0xFF0F, 0xFF41, 0xFF44, 0xFF50] : List Word).map
      (fun a => ((start [] s0Regs).memWrite a 0xFF).memRead a) = [0xFF, 0, 0xFF, 0xFF, 0xFE, 0, 0xFF] := by decide +kernel
/-- Sources in ROM, in OAM itself and in the I/O window with the DMA register. -/
theorem witness_OamDmaCopiesPage :
    (start [0x11] s0Regs).mem.wf = true ∧ ((start [0x11] s0Regs).memWrite 0xFF46 0x02).memRead 0xFE00 = 0x11 ∧
    ((poke (start [] s0Regs) [(0xFE9F, 0x77)]).memWrite 0xFF46 0xFE).memRead 0xFE9F = 0x77 ∧
    ((start [] s0Regs).memWrite 0xFF46 0xFF).memRead 0xFE46 = 0xFF ∧
    ((start [] s0Regs).memWrite 0xFF46 0x02).memRead 0xFDFF = 0 := by decide +kernel

/-- S0 with a cartridge whose controller holds the given registers. -/
def holding (k : Cart) : State := { withCart k with mem := { (withCart k).mem with cart := some k } }
/-- The controller's registers after a write. -/
def latched (m : Mbc) (w : Word × Byte) : Option Mbc :=
  ((holding (cartOf m 2 8192 [])).memWrite w.1 w.2).mem.cart.map (·.mbc)
theorem witness_BankRegisterWrites_mbc1 :
    ([(0x0000, 0x1A), (0x1FFF, 0xA0), (0x2000, 0xE0), (0x3FFF, 0xFF), (0x4000, 0x07), (0x5FFF, 0x04), (0x6000, 0x03),
      (0x7FFF, 0xFE)] : List (Word × Byte)).map (latched (.mbc1 true 5 1 true)) =
    [ some (.mbc1 true 5 1 true), some (.mbc1 false 5 1 true), some (.mbc1 true 1 1 true),
      some (.mbc1 true 0x1F 1 true), some (.mbc1 true 5 3 true), some (.mbc1 true 5 0 true),
      some (.mbc1 true 5 1 true), some (.mbc1 true 5 1 false) ] := by decide +kernel
theorem witness_BankRegisterWrites_mbc2 :
    ([(0x0000, 0x0A), (0x3EFF, 0x0B), (0x0100, 0x10), (0x3FFF, 0xFF), (0x4000, 7), (0x7FFF, 7)] :
      List (Word × Byte)).map (latched (.mbc2 true 5)) =
    [ some (.mbc2 true 5), some (.mbc2 false 5), some (.mbc2 true 1), some (.mbc2 true 15), some (.mbc2 true 5),
      some (.mbc2 true 5) ] := by decide +kernel
theorem witness_BankRegisterWrites_mbc3 :
    ([(0x1FFF, 0), (0x2000, 0x80), (0x3FFF, 0xFF), (0x4000, 0x0C), (0x5FFF, 0xFF), (0x6000, 1), (0x7FFF, 1)] :
      List (Word × Byte)).map (latched (.mbc3 true 5 1)) =
    [ some (.mbc3 false 5 1), some (.mbc3 true 1 1), some (.mbc3 true 0x7F 1), some (.mbc3 true 5 0x0C),
      some (.mbc3 true 5 0xFF), some (.mbc3 true 5 1), some (.mbc3 true 5 1) ] := by decide +kernel
theorem witness_BankRegisterWrites_mbc5 :
    ([(0x1FFF, 0), (0x2000, 0), (0x2FFF, 0xFF), (0x3000, 0), (0x3FFF, 0xFF), (0x4000, 0x1F), (0x5FFF, 0), (0x6000, 1)] :
      List (Word × Byte)).map (latched (.mbc5 true 0x105 1)) =
    [ some (.mbc5 false 0x105 1), some (.mbc5 true 0x100 1), some (.mbc5 true 0x1FF 1), some (.mbc5 true 5 1),
      some (.mbc5 true 0x105 1), some (.mbc5 true 0x105 15), some (.mbc5 true 0x105 0),
      some (.mbc5 true 0x105 1) ] := by decide +kernel
theorem witness_BankRegisterWrites_none :
    ([(0x0000, 0x0A), (0x7FFF, 5)] : List (Word × Byte)).map (latched .noController) =
      [some .noController, some .noController] := by decide +kernel
/-- Each controller's windows at both ends, with RAM on, off and absent, and without an image. -/
theorem witness_BankMapping :
    carts.map (fun k => ((withCart k).bootMapped, (withCart k).memRead 0x3FFF, (withCart k).memRead 0x4000)) =
      [(false, 0, 9), (false, 0, 9), (false, 0, 9), (false, 0, 9), (false, 0, 9)] ∧
    carts.map (fun k => ((holding k).memRead 0x4000, ((holding k).memWrite 0xBFFF 0x5A).memRead 0xBFFF)) =
      [(9, 0x5A), (9, 0x5A), (9, 0xFA), (9, 0x5A), (9, 0x5A)] ∧
    (withCart (cartOf (.mbc1 false 1 0 false) 2 8192 [])).memRead 0xA000 = 0xFF ∧
    (start [] s0Regs).memRead 0xA000 = 0xFF ∧ State.reset.memRead 0x7FFF = 0xFF ∧
    State.reset.memRead 0xBFFF = 0xFF := by decide +kernel
/-- R66: the overlay's last byte, the image's byte after it, and under it once the boot ROM is unmapped. -/
def overlaid : State :=
  { withCart (cartOf (.mbc1 true 1 0 false) 2 8192 [(0xFF, 1), (0x100, 2)]) with
    bootMapped := true, cfg := { bootRom := some (List.replicate 256 0x31) } }
theorem witness_BankMapping_boot :
    (overlaid.memRead 0x0000, overlaid.memRead 0x00FF, overlaid.memRead 0x0100) = (0x31, 0x31, 2) ∧
    (overlaid.memWrite 0xFF50 1).memRead 0x00FF = 1 ∧
    ((overlaid.memWrite 0x0000 0x00).memWrite 0xA000 0x5A).memRead 0xA000 = 0xFF := by decide +kernel
/-- R70: what a write leaves in external RAM, for each controller with RAM on, then off. -/
def storedAt (m : Mbc) (n : Nat) (a : Word) : Option (Cells 8) :=
  ((holding (cartOf m 2 n [])).memWrite a 0x5A).mem.cart.map (·.xram)
theorem witness_BankMapping_writes :
    [storedAt .noController 2048 0xA800, storedAt (.mbc1 true 1 1 true) 32768 0xBFFF,
      storedAt (.mbc2 true 1) 512 0xBFFF, storedAt (.mbc3 true 1 7) 65536 0xA000,
      storedAt (.mbc5 true 0 15) 131072 0xA000] =
      [some [(0, 0x5A)], some [(0x3FFF, 0x5A)], some [(511, 0x0A)], some [(0xE000, 0x5A)],
        some [(0x1E000, 0x5A)]] ∧
    [storedAt .noController 0 0xA000, storedAt (.mbc1 false 1 1 true) 32768 0xBFFF, storedAt (.mbc2 false 1) 512 0xA000,
      storedAt (.mbc3 true 1 8) 65536 0xA000, storedAt (.mbc5 false 0 15) 131072 0xA000] =
      List.replicate 5 (some []) := by decide +kernel

theorem witness_JoypadLinesAndRequest :
    ((start [] s0Regs).memWrite 0xFF00 0x20).joypad.p1Sel = 2 ∧
    ((start [] s0Regs).setButtonState .down true).ifReg = 0b10000 ∧
    ((start [] s0Regs).setButtonState .down true).joypad.low = 0b0111 ∧
    (((start [] s0Regs).setButtonState .down true).setButtonState .down false).joypad.buttons = {} := by decide +kernel
theorem witness_DividerLaw :
    0 < (start [] s0Regs).cfg.params.divPeriod ∧ (start [] s0Regs).timer.divSub < 4 ∧
    (start [] s0Regs).timer.tac.getLsbD 2 = false ∧ (start [] s0Regs).timer.reloadPending = 0 ∧
    ((start [] s0Regs).timerAdvance 7).timer.div = 0xAC := by decide +kernel
/-- An overflow at each of the four rates. -/
def overflowed (rate : BitVec 3) (tma : Byte) : State :=
  { start [] s0Regs with
    timer := { div := 0, divSub := 0, tima := 0, tma := tma, tac := 4 ||| rate, timaSub := 0, reloadPending := 4 } }
theorem witness_TimerOverflowLaw :
    ([0, 1, 2, 3] : List (BitVec 3)).map (fun r =>
        ((overflowed r 0xFF).timer.tac.getLsbD 2, (overflowed r 0xFF).timer.reloadPending,
          (overflowed r 0xFF).cfg.params.timaReloadDelay)) = List.replicate 4 (true, 4, 4) ∧
    (((overflowed 1 0xFF).timerAdvance 16).timer.tima, ((overflowed 1 0xFF).timerAdvance 16).timer.reloadPending,
      ((overflowed 1 0xFF).timerAdvance 16).ifReg, ((overflowed 1 0xFF).timerAdvance 3).ifReg,
      ((overflowed 1 0xFF).timerAdvance 4).timer.tima) = (0, 4, 0b00100, 0, 0xFF) := by decide +kernel
/-- A PPU at a given place. -/
def atPlace (ly : Byte) (dot : Nat) : State :=
  { start [] s0Regs with
    ppu := { (start [] s0Regs).ppu with
      ly := ly, dot := dot, mode := modeAt {} ly dot, statSel := 0b0010 } }
theorem witness_PpuPositionLaw :
    (atPlace 153 455).ppu.lcdOn = true ∧ (atPlace 153 455).ppu.ly.toNat < 154 ∧
    (atPlace 153 455).cfg.params.xferCycles = 172 ∧
    ((atPlace 153 455).ppuAdvance 1).ppu.ly = 0 ∧ ((atPlace 153 455).ppuAdvance 1).ppu.mode = .oamScan ∧
    ((atPlace 7 251).ppuAdvance 1).ppu.mode = .hblank ∧ ((atPlace 143 455).ppuAdvance 0).ppu.mode = .hblank := by
  decide +kernel
theorem witness_VBlankAndStatRequests :
    (atPlace 143 455).ppu.mode ≠ .vblank ∧ (atPlace 143 455).ppuTick.ppu.mode = .vblank ∧
    (atPlace 143 455).ppuTick.ifReg = 0b00011 ∧ (atPlace 143 455).ppuTick.ppu.vblankEvent = true ∧
    (atPlace 10 100).ppuTick.ifReg = 0 := by decide +kernel
theorem witness_LcdSwitchAndStatWrites :
    (start [] s0Regs).ppu.lcdOn = true ∧ ((start [] s0Regs).memWrite 0xFF40 0x11).ppu.lcdOn = false ∧
    (((start [] s0Regs).memWrite 0xFF40 0x11).memWrite 0xFF40 0x91).ppu.mode = .oamScan ∧
    ((start [] s0Regs).memWrite 0xFF45 0x00).ppu.statLine = false ∧
    ((start [] s0Regs).memWrite 0xFF41 0x40).ifReg = 0b00010 := by decide +kernel
theorem witness_RenderWritesOneRow :
    (atPlace 143 79).ppu.lcdOn = true ∧ (atPlace 143 79).ppu.ly.toNat < 144 ∧ (atPlace 143 79).ppu.dot = 79 ∧
    (atPlace 143 79).ppu.mode = .oamScan ∧ 1 ≤ (atPlace 143 79).cfg.params.xferCycles ∧
    (atPlace 143 79).ppu.fbLive.wfIn 0 23040 = true ∧ (atPlace 143 79).ppu.lcdc.getLsbD 1 = false := by decide +kernel
/-- 9.4's object over its background, with a second one of the same X after it and a third to its left under it. -/
def drawn : State :=
  poke { start [] s0Regs with ppu := (atPlace 0 79).ppu }
    [(0xFF47, 0xE4), (0x8000, 0x55), (0x8001, 0x33), (0xFF40, 0x93), (0xFE00, 0x10), (0xFE01, 0x08), (0xFE02, 0x01),
      (0xFE04, 0x10), (0xFE05, 0x08), (0xFE06, 0x01), (0xFE07, 0x80), (0xFE08, 0x10), (0xFE09, 0x07), (0xFE0A, 0x02),
      (0x8010, 0xFF), (0x8020, 0x80), (0xFF48, 0x1C)]
theorem witness_RenderWritesOneRow_objects :
    drawn.ppu.dot = 79 ∧ drawn.ppu.mode = .oamScan ∧ drawn.ppu.lcdc.getLsbD 1 = true ∧
    [0, 1, 2, 3].map (drawn.objShows 0 0) = [true, true, false, false] ∧
    [0, 1, 2].map (drawn.objSelected 0) = [true, true, true] ∧
    (drawn.ppuTick.ppu.fbLive.read 0, drawn.ppuTick.ppu.fbLive.read 8) = (3, 0) := by decide +kernel
theorem witness_RenderWritesOneRow_wins : drawn.objWins 0 0 0 := by
  have hb : ∀ j, j < 40 → drawn.objShows 0 0 j = true → j ≠ 0 →
      (drawn.objByte 0 1).toNat < (drawn.objByte j 1).toNat ∨ (drawn.objByte 0 1 = drawn.objByte j 1 ∧ 0 < j) := by
    decide +kernel
  refine ⟨by decide +kernel, fun j hj => hb j ?_ hj⟩
  simp only [State.objShows, State.objSelected, Bool.and_eq_true, decide_eq_true_eq] at hj
  exact hj.1.1.1.1
/-- The window from its first column on, at WX = 166 too, and not at 167. -/
theorem witness_RenderWritesOneRow_window :
    (let t := fun (wx : Byte) => poke (atPlace 3 79) [(0xFF40, 0xB1), (0xFF4B, wx)]
     [(t 7).windowOver 3 0, (t 8).windowOver 3 0, (t 166).windowOver 3 159, (t 167).windowOver 3 159]) =
      [true, false, true, false] := by decide +kernel

/-- A state far from reset: bank registers and RAM in use, the LCD in line 20, the timer counting, a boot ROM, an
enable in flight. -/
def busy : State :=
  { State.powerOn bootConfig none with
    mem := { (Memory.powerOn none) with
      cart := some { cartOf (.mbc1 true 5 1 true) 4 32768 [(0x0200, 0x3C)] with xram := [(3, 7)] } }
    regs := s0Regs, eiDelay := 1, ifReg := 0b00100, ie := 0x1B, bootMapped := true, sc := 0x81
    timer := { div := 3, divSub := 2, tima := 9, tma := 8, tac := 5, timaSub := 11, reloadPending := 2 }
    ppu := { (Ppu.powerOn Config.default) with
      lcdc := 0xB1, statSel := 0b0001, ly := 20, dot := 300, mode := .hblank, winLine := 12, statLine := true
      fbLive := [(5, 3), (23039, 1)] }
    joypad := { buttons := { a := true }, p1Sel := 1, p1LowPrev := 0xE } }
theorem witness_EveryStepKeepsInvariant : busy.Inv ∧ after busy (fun t => (t.regs.pc, t.ime, t.cycles)) =
    some (0x0201, true, 4) := by
  refine ⟨⟨?_, ?_, ⟨?_, ?_, ?_⟩, ⟨?_, ?_, ?_⟩, ⟨fun _ => ⟨?_, ?_, ?_, ?_, ?_⟩, ?_, ?_, ?_, ?_⟩, ?_, ?_, ?_, ?_, ?_⟩, ?_⟩
  case refine_2 => show busy.regs.f &&& 0x0F = 0; decide +kernel
  case refine_14 => intro h; exact absurd h (by decide +kernel)
  case refine_22 => intro k h; cases h; exact ⟨show (5 : BitVec 5) ≠ 0 by decide, show 0 < 4 by decide⟩
  all_goals decide +kernel
theorem witness_InvariantHoldsAtReset : bootConfig.params.wellFormed = true ∧
    construct bootConfig = .ok (State.powerOn bootConfig none) := ⟨rfl, if_pos (by decide +kernel)⟩
/-- The host's calls on that state change what they should (its invariant is `witness_EveryStepKeepsInvariant`). -/
theorem witness_InvariantHoldsAtReset_calls :
    busy.resetCall.regs.pc = 0 ∧ (busy.setButtonState .b true).joypad.p1LowPrev = 0xC ∧
    (busy.importExternalRam [1]).state = busy ∧ (busy.loadImage []).state = busy ∧
    busy.clearVBlankEvent.ppu.vblankEvent = false := by decide +kernel
theorem witness_EveryStepCompletes : busy.mem.cart.isSome = true ∧ State.reset.mem.cart = none := by decide +kernel
theorem witness_AdvanceChangesPeripheralsAlone : busy.ifReg.getLsbD 2 = true := by decide +kernel
theorem witness_RunFrameStopsAtFrame :
    (afterN 1 { atPlace 143 455 with run := .locked } (fun t => t.ppu.vblankEvent)) = some true ∧
    (match State.runFrame { atPlace 143 450 with run := .locked } with
      | .next t => (t.ppu.ly, t.ppu.dot, t.ppu.vblankEvent)
      | .fault _ => (0, 0, true)
      | .refused _ => (0, 0, true)) = (144, 2, false) := by decide +kernel
theorem witness_ExternalRamRoundTrip :
    busy.mem.wf = true ∧ State.reset.mem.wf = true ∧ State.reset.exportExternalRam = [] ∧
    ((withCart (cartOf (.mbc2 true 1) 2 512 [])).memWrite 0xA000 0xAB).exportExternalRam.take 2 = [0, 0] ∧
    ([0x5A] : List Byte).length ≠ State.reset.exportExternalRam.length := by decide +kernel
/-- R452: a whole import, MBC2's by low nibbles; the first and the last cell. -/
theorem witness_ExternalRamRoundTrip_import :
    ((withCart (cartOf (.mbc1 false 1 0 false) 2 2048 [])).importExternalRam (List.replicate 2048 0xAB)).state.mem.cart.map
      (fun k => (k.xram.read 0, k.xram.read 2047)) = some (0xAB, 0xAB) ∧
    ((withCart (cartOf (.mbc2 false 1) 2 512 [])).importExternalRam (List.replicate 512 0xAB)).state.exportExternalRam =
      List.replicate 512 0x0B := by decide +kernel
end Sys2Proof.Tests
end

section
/-! PROOFS. The machine's invariant: the timer's cycle keeps its counters in range. -/

namespace Sys2Proof.Machine

namespace Timer

variable (p : Params) (t : Timer)

/-- Every TIMA period fits TIMA_SUB's range (10_state R35, R36). -/
theorem period_le : t.period ≤ 1024 := by
  unfold period timaPeriod
  split_ifs <;> decide

@[simp] theorem tickReload_divSub : t.tickReload.divSub = t.divSub := by
  unfold tickReload; split_ifs <;> rfl

@[simp] theorem tickReload_timaSub : t.tickReload.timaSub = t.timaSub := by
  unfold tickReload; split_ifs <;> rfl

/-- The reload window only runs down (60_exceptions R364). -/
theorem tickReload_reloadPending_le : t.tickReload.reloadPending ≤ t.reloadPending := by
  unfold tickReload
  split_ifs
  · exact le_rfl
  · exact Nat.zero_le _
  · exact Nat.sub_le _ _

@[simp] theorem tickDiv_timaSub : (t.tickDiv p).timaSub = t.timaSub := by
  unfold tickDiv; split <;> rfl

@[simp] theorem tickDiv_reloadPending : (t.tickDiv p).reloadPending = t.reloadPending := by
  unfold tickDiv; split <;> rfl

/-- The divider's sub-counter wraps at its period (60_exceptions R361). -/
theorem tickDiv_divSub_lt (h : t.divSub < p.divPeriod) : (t.tickDiv p).divSub < p.divPeriod := by
  unfold tickDiv
  split
  · exact Nat.zero_lt_of_lt h
  · show t.divSub + 1 < p.divPeriod
    omega

@[simp] theorem countTima_divSub : (t.countTima p).divSub = t.divSub := by
  unfold countTima; split <;> rfl

@[simp] theorem countTima_timaSub : (t.countTima p).timaSub = t.timaSub := by
  unfold countTima; split <;> rfl

theorem countTima_reloadPending_le (h : t.reloadPending ≤ p.timaReloadDelay) :
    (t.countTima p).reloadPending ≤ p.timaReloadDelay := by
  unfold countTima
  split
  · exact le_rfl
  · exact h

@[simp] theorem tickTima_divSub : (t.tickTima p).divSub = t.divSub := by
  unfold tickTima
  split_ifs <;> simp

/-- TIMA_SUB starts over once it reaches the selected period (60_exceptions R362). -/
theorem tickTima_timaSub_lt (h : t.timaSub < 1024) : (t.tickTima p).timaSub < 1024 := by
  unfold tickTima
  split_ifs with _ hp
  · rw [countTima_timaSub]
    exact (by decide : 0 < 1024)
  · show t.timaSub + 1 < 1024
    have := t.period_le
    omega
  · exact h

theorem tickTima_reloadPending_le (h : t.reloadPending ≤ p.timaReloadDelay) :
    (t.tickTima p).reloadPending ≤ p.timaReloadDelay := by
  unfold tickTima
  split_ifs
  · exact countTima_reloadPending_le p _ h
  · exact h
  · exact h

end Timer

variable {s t : State}

/-- The timer's ranges speak of the timer and the Config alone. -/
theorem TimerLegal.of_eq (h : TimerLegal s) (ht : t.timer = s.timer) (hc : t.cfg = s.cfg) : TimerLegal t := by
  obtain ⟨hdiv, htima, hreload⟩ := h
  constructor <;> simpa only [ht, hc]

/-- One cycle of the timer keeps the counters in range (60_exceptions R360). -/
theorem TimerLegal.timerTick (h : TimerLegal s) : TimerLegal s.timerTick := by
  rw [timerTick_eq]
  refine ⟨?_, ?_, ?_⟩
  · show ((((s.timer.tickDiv _).tickReload).tickTima _).divSub) < _
    rw [Timer.tickTima_divSub, Timer.tickReload_divSub]
    exact Timer.tickDiv_divSub_lt _ _ h.divSub
  · refine Timer.tickTima_timaSub_lt _ _ ?_
    rw [Timer.tickReload_timaSub, Timer.tickDiv_timaSub]
    exact h.timaSub
  · refine Timer.tickTima_reloadPending_le _ _ ((Timer.tickReload_reloadPending_le _).trans ?_)
    rw [Timer.tickDiv_reloadPending]
    exact h.reload

/-- A divider reset, by DIV or STOP (60_exceptions R365, 45_system R312). -/
theorem TimerLegal.resetDiv (h : TimerLegal s) : TimerLegal { s with timer := s.timer.resetDiv } :=
  ⟨Nat.zero_lt_of_lt h.divSub, h.timaSub, h.reload⟩

end Sys2Proof.Machine
end

section
/-! PROOFS. The machine's invariant: the PPU's dot keeps position, mode, STAT line and frame buffers legal. -/

namespace Sys2Proof.Machine

/-- The mode is pixel transfer on the dots after the object scan of a visible line (60_exceptions R380). -/
theorem modeAt_eq_transfer {p : Params} {ly : Byte} {dot : Nat} :
    modeAt p ly dot = .transfer ↔
      ly.toNat < visibleLines ∧ oamCycles ≤ dot ∧ dot < oamCycles + p.xferCycles := by
  unfold modeAt
  split_ifs <;> simp <;> omega

/-- No line starts in pixel transfer. -/
theorem modeAt_zero_ne_transfer (p : Params) (ly : Byte) : modeAt p ly 0 ≠ .transfer :=
  fun h => absurd (modeAt_eq_transfer.1 h).2.1 (by decide)

theorem lineCycles_pos : 0 < lineCycles := by decide

theorem frameLines_pos : 0 < frameLines := by decide

/-- The row of a visible line lies within the frame buffer. -/
theorem wfIn_writeRow (shade : Nat → BitVec 2) (ly : Nat) {hi : Nat} (n px : Nat) (fb : Cells 2)
    (h : fb.wfIn 0 hi = true) (hb : ly * lineWidth + px + n ≤ hi) :
    (writeRow shade ly px n fb).wfIn 0 hi = true := by
  induction n generalizing px fb with
  | zero => exact h
  | succ n ih => exact ih (px + 1) _ (Cells.wfIn_write _ h (by omega) (by omega)) (by omega)

theorem wfIn_renderLine (p : Ppu) (vram oam : Cells 8) {ly : Nat} (hly : ly < visibleLines)
    (h : p.fbLive.wfIn 0 (visibleLines * lineWidth) = true) :
    (p.renderLine vram oam ly).fbLive.wfIn 0 (visibleLines * lineWidth) = true := by
  rw [renderLine_fbLive]
  refine wfIn_writeRow _ _ _ _ _ h ?_
  have := Nat.mul_le_mul_right lineWidth (Nat.succ_le_of_lt hly)
  rw [Nat.succ_mul] at this
  exact this

theorem renderLine_winLine_le (p : Ppu) (vram oam : Cells 8) (ly : Nat) :
    (p.renderLine vram oam ly).winLine ≤ p.winLine + 1 := by
  rw [renderLine_winLine]
  split <;> omega

/-- One dot further is the next dot, the next line or the next frame (60_exceptions R380). -/
theorem nextDot_cases (p : Ppu) :
    (p.dot + 1 ≠ lineCycles ∧ p.nextDot = { p with dot := p.dot + 1 }) ∨
    (p.dot + 1 = lineCycles ∧ p.ly + 1 ≠ BitVec.ofNat 8 frameLines ∧
      p.nextDot = { p with dot := 0, ly := p.ly + 1 }) ∨
    (p.dot + 1 = lineCycles ∧ p.nextDot = { p with dot := 0, ly := 0, winLine := 0 }) := by
  unfold Ppu.nextDot
  split_ifs with h1 h2
  · exact .inr (.inr ⟨h1, rfl⟩)
  · exact .inr (.inl ⟨h1, h2, rfl⟩)
  · exact .inl ⟨h1, rfl⟩

/-- What the PPU keeps through every part of a dot while the LCD is on: LY, dot and WIN_LINE within their ranges,
the frame buffers within their sizes. -/
structure PpuBounds (s : State) : Prop where
  ly : s.ppu.ly.toNat < frameLines
  dot : s.ppu.dot < lineCycles
  winLine : s.ppu.winLine ≤ visibleLines
  fbLive : s.ppu.fbLive.wfIn 0 (visibleLines * lineWidth) = true
  fbFrame : s.ppu.fbFrame.wfIn 0 (visibleLines * lineWidth) = true

/-- The PPU between the move to a dot and its mode change: only the first dot of pixel transfer, whose line is not
rendered yet, enters that mode. -/
structure PpuMoved (s : State) : Prop extends PpuBounds s where
  enters : modeAt s.cfg.params s.ppu.ly s.ppu.dot = .transfer → s.ppu.mode ≠ .transfer → s.ppu.dot = oamCycles
  lineWin : s.ppu.ly.toNat < visibleLines →
    s.ppu.winLine ≤ s.ppu.ly.toNat + if oamCycles < s.ppu.dot then 1 else 0

/-- The PPU between the mode change and the evaluation of the STAT line. -/
structure PpuPlaced (s : State) : Prop extends PpuBounds s where
  mode : s.ppu.mode = modeAt s.cfg.params s.ppu.ly s.ppu.dot
  lineWin : s.ppu.ly.toNat < visibleLines →
    s.ppu.winLine ≤ s.ppu.ly.toNat + if oamCycles ≤ s.ppu.dot then 1 else 0

variable {s t : State}

theorem PpuLegal.placed (h : PpuLegal s) (hon : s.ppu.lcdOn = true) : PpuPlaced s :=
  have g := h.on hon
  { ly := g.ly, dot := g.dot, winLine := h.winLine, fbLive := h.fbLive, fbFrame := h.fbFrame
    mode := g.mode, lineWin := g.winLine }

/-- Evaluating the STAT line sets it to its level and requests at most (60_exceptions R386). -/
theorem updateStatLine_ppu (s : State) :
    s.updateStatLine.ppu = { s.ppu with statLine := s.ppu.statLevel } := rfl

/-- A placed PPU whose STAT line is evaluated is legal. -/
theorem PpuPlaced.updateStatLine (h : PpuPlaced s) (hon : s.ppu.lcdOn = true) : PpuLegal s.updateStatLine := by
  have hc := (keepsCpu_updateStatLine s).cfg
  refine ⟨fun _ => ⟨h.ly, h.dot, ?_, rfl, h.lineWin⟩, fun hoff => ?_, h.winLine, h.fbLive, h.fbFrame⟩
  · rw [hc]; exact h.mode
  · exact absurd (hon.symm.trans hoff) (by decide)

/-- The move to the next dot (60_exceptions R380). -/
theorem PpuPlaced.nextDot (h : PpuPlaced s) : PpuMoved { s with ppu := s.ppu.nextDot } := by
  obtain ⟨⟨hly, hdot, hwin, hlive, hframe⟩, hmode, hline⟩ := h
  rcases nextDot_cases s.ppu with ⟨h1, e⟩ | ⟨h1, h2, e⟩ | ⟨h1, e⟩ <;> rw [e]
  · refine ⟨⟨hly, ?_, hwin, hlive, hframe⟩, fun hm hne => ?_, fun hv => ?_⟩
    · exact Nat.lt_of_le_of_ne hdot h1
    · dsimp only at hm hne ⊢
      rw [hmode, Ne, modeAt_eq_transfer] at hne
      rw [modeAt_eq_transfer] at hm
      omega
    · have := hline hv
      dsimp only
      split_ifs at this ⊢ <;> omega
  · have hly' : (s.ppu.ly + 1).toNat = s.ppu.ly.toNat + 1 ∧ (s.ppu.ly + 1).toNat ≠ frameLines := by
      unfold frameLines at *
      constructor <;> bv_omega
    refine ⟨⟨?_, lineCycles_pos, hwin, hlive, hframe⟩, fun hm => ?_, fun hv => ?_⟩
    · dsimp only; omega
    · exact absurd hm (modeAt_zero_ne_transfer _ _)
    · dsimp only at hv ⊢
      have := hline (by omega)
      split_ifs at this ⊢ <;> omega
  · exact ⟨⟨frameLines_pos, lineCycles_pos, Nat.zero_le _, hlive, hframe⟩,
      fun hm => absurd hm (modeAt_zero_ne_transfer _ _), fun _ => Nat.zero_le _⟩

/-- The change to the mode of the dot; pixel transfer renders the line (60_exceptions R380, R383, R388). -/
theorem PpuMoved.enterMode (h : PpuMoved s) (hne : modeAt s.cfg.params s.ppu.ly s.ppu.dot ≠ s.ppu.mode) :
    PpuPlaced (s.enterMode (modeAt s.cfg.params s.ppu.ly s.ppu.dot)) := by
  obtain ⟨⟨hly, hdot, hwin, hlive, hframe⟩, henters, hline⟩ := h
  have hline' : s.ppu.ly.toNat < visibleLines →
      s.ppu.winLine ≤ s.ppu.ly.toNat + if oamCycles ≤ s.ppu.dot then 1 else 0 := by
    intro hv
    have := hline hv
    split_ifs at this ⊢ <;> omega
  cases hm : modeAt s.cfg.params s.ppu.ly s.ppu.dot with
  | hblank => exact ⟨⟨hly, hdot, hwin, hlive, hframe⟩, hm.symm, hline'⟩
  | vblank => exact ⟨⟨hly, hdot, hwin, hlive, hlive⟩, hm.symm, hline'⟩
  | oamScan => exact ⟨⟨hly, hdot, hwin, hlive, hframe⟩, hm.symm, hline'⟩
  | transfer =>
    have hd : s.ppu.dot = oamCycles := henters hm (hm ▸ hne.symm)
    have hv : s.ppu.ly.toNat < visibleLines := (modeAt_eq_transfer.1 hm).1
    have hw : s.ppu.winLine ≤ s.ppu.ly.toNat := by simpa [hd] using hline hv
    have hr := (renderLine_winLine_le { s.ppu with mode := .transfer } s.mem.vram s.mem.oam s.ppu.ly.toNat).trans
      (Nat.succ_le_succ hw)
    refine ⟨⟨hly, hdot, hr.trans hv, wfIn_renderLine _ _ _ hv hlive, hframe⟩, hm.symm, fun _ => ?_⟩
    show _ ≤ s.ppu.ly.toNat + if oamCycles ≤ s.ppu.dot then 1 else 0
    rw [if_pos hd.ge]
    exact hr

theorem PpuMoved.updateMode (h : PpuMoved s) : PpuPlaced s.updateMode := by
  unfold State.updateMode
  dsimp only
  split_ifs with hm
  · refine { h.toPpuBounds with mode := hm.symm, lineWin := fun hv => ?_ }
    have := h.lineWin hv
    split_ifs at this ⊢ <;> omega
  · exact h.enterMode hm

/-- No part of a dot switches the LCD (60_exceptions R380). -/
theorem updateMode_lcdc (s : State) : s.updateMode.ppu.lcdc = s.ppu.lcdc := by
  unfold State.updateMode State.enterMode
  dsimp only
  split
  · rfl
  · split <;> rfl

theorem nextDot_lcdc (p : Ppu) : p.nextDot.lcdc = p.lcdc := by
  rcases nextDot_cases p with ⟨-, e⟩ | ⟨-, -, e⟩ | ⟨-, e⟩ <;> rw [e]

/-- One dot keeps the PPU legal (60_exceptions R380, R381). -/
theorem PpuLegal.ppuTick (h : PpuLegal s) : PpuLegal s.ppuTick := by
  unfold State.ppuTick
  split_ifs with hon
  · refine (h.placed hon).nextDot.updateMode.updateStatLine ?_
    rw [Ppu.lcdOn, updateMode_lcdc, nextDot_lcdc]
    exact hon
  · exact h

/-- Two PPUs that agree in all that PPU legality reads. -/
structure Ppu.SamePlace (p q : Ppu) : Prop where
  lcdOn : q.lcdOn = p.lcdOn
  ly : q.ly = p.ly
  dot : q.dot = p.dot
  mode : q.mode = p.mode
  statLine : q.statLine = p.statLine
  statLevel : q.statLevel = p.statLevel
  winLine : q.winLine = p.winLine
  fbLive : q.fbLive = p.fbLive
  fbFrame : q.fbFrame = p.fbFrame

theorem Ppu.SamePlace.refl (p : Ppu) : p.SamePlace p := ⟨rfl, rfl, rfl, rfl, rfl, rfl, rfl, rfl, rfl⟩

theorem PpuLegal.of_samePlace (h : PpuLegal s) (hp : s.ppu.SamePlace t.ppu) (hc : t.cfg = s.cfg) : PpuLegal t := by
  obtain ⟨eon, ely, edot, emode, eline, elevel, ewin, elive, eframe⟩ := hp
  refine ⟨fun hon => ?_, fun hoff => ?_, ?_, ?_, ?_⟩
  · obtain ⟨hly, hdot, hmode, hline, hwin⟩ := h.on (eon ▸ hon)
    constructor <;> simpa only [ely, edot, emode, eline, elevel, ewin, hc]
  · obtain ⟨hly, hdot, hmode, hline⟩ := h.off (eon ▸ hoff)
    constructor <;> simpa only [ely, edot, emode, eline]
  · exact ewin ▸ h.winLine
  · exact elive ▸ h.fbLive
  · exact eframe ▸ h.fbFrame

/-- A PPU write of STAT's selects or LYC, with R387's evaluation of the STAT line. -/
theorem PpuLegal.restat (h : PpuLegal s) (sel : BitVec 4) (lyc : Byte) :
    PpuLegal (State.restat { s with ppu := { s.ppu with statSel := sel, lyc := lyc } }) := by
  unfold State.restat
  split_ifs with hon
  · obtain ⟨hb, hmode, hline⟩ := h.placed hon
    exact PpuPlaced.updateStatLine ⟨⟨hb.ly, hb.dot, hb.winLine, hb.fbLive, hb.fbFrame⟩, hmode, hline⟩ hon
  · refine ⟨fun g => absurd g hon, fun hoff => ?_, h.winLine, h.fbLive, h.fbFrame⟩
    obtain ⟨hly, hdot, hmode, hline⟩ := h.off hoff
    exact ⟨hly, hdot, hmode, hline⟩

/-- A write to LCDC: LCD switched off, switched on, or left as it is (60_exceptions R381, R382). -/
theorem PpuLegal.writeLcdc (h : PpuLegal s) (v : Byte) : PpuLegal (s.writeLcdc v) := by
  unfold State.writeLcdc
  dsimp only
  split
  · rename_i hv
    exact ⟨fun hon => absurd (hv.symm.trans hon) (by decide), fun _ => ⟨rfl, rfl, rfl, rfl⟩,
      h.winLine, h.fbLive, h.fbFrame⟩
  · rename_i hv
    exact PpuPlaced.updateStatLine
      ⟨⟨frameLines_pos, lineCycles_pos, Nat.zero_le _, h.fbLive, h.fbFrame⟩, rfl, fun _ => Nat.zero_le _⟩ hv
  all_goals
    rename_i hold hv
    exact h.of_samePlace ⟨hv.trans hold.symm, rfl, rfl, rfl, rfl, rfl, rfl, rfl, rfl⟩ rfl

end Sys2Proof.Machine
end

section
/-! PROOFS. The machine's invariant: what a bus write and the peripherals' advance keep of it. -/

namespace Sys2Proof.Machine

/-! Bank registers (20_memory R95 to R98). -/

theorem zeroToOne_ne_zero {w : Nat} (b : BitVec (w + 1)) : zeroToOne b ≠ 0 := by
  unfold zeroToOne
  split_ifs with hb
  · simp
  · exact hb

/-- A controller write stores no zero in a bank register that never holds one (20_memory R95, R96, R97). -/
theorem Mbc.nonzero_write {m : Mbc} (h : m.nonzero) (a : Word) (v : Byte) : (m.write a v).nonzero := by
  cases m with
  | noController => trivial
  | mbc1 en b1 b2 md =>
    simp only [Mbc.write]
    split_ifs
    · exact h
    · exact zeroToOne_ne_zero _
    · exact h
    · exact h
  | mbc2 en rb =>
    simp only [Mbc.write]
    split_ifs
    · exact zeroToOne_ne_zero _
    · exact h
    · exact h
  | mbc3 en rb ra =>
    simp only [Mbc.write]
    split_ifs
    · exact h
    · exact zeroToOne_ne_zero _
    · exact h
    · exact h
  | mbc5 en rb ra =>
    simp only [Mbc.write]
    split_ifs <;> trivial

theorem Mbc.nonzero_powerOn (m : Mbc) : m.powerOn.nonzero := by
  cases m with
  | noController => trivial
  | mbc1 => exact (by decide : (1 : BitVec 5) ≠ 0)
  | mbc2 => exact (by decide : (1 : BitVec 4) ≠ 0)
  | mbc3 => exact (by decide : (1 : BitVec 7) ≠ 0)
  | mbc5 => trivial

/-- A write to the external RAM window changes neither the controller nor the image (20_memory R70). -/
theorem Cart.writeRam_mbc_nrom (k : Cart) (a : Word) (v : Byte) :
    (k.writeRam a v).mbc = k.mbc ∧ (k.writeRam a v).nrom = k.nrom := by
  unfold Cart.writeRam
  split <;> exact ⟨rfl, rfl⟩

variable {s t : State}

theorem BankLegal.mapCart (h : BankLegal s) {f : Cart → Cart}
    (hf : ∀ k, k.mbc.nonzero → (f k).mbc.nonzero ∧ (f k).nrom = k.nrom) : BankLegal (s.mapCart f) := by
  intro k' hk'
  obtain ⟨k, hk, rfl⟩ := Option.map_eq_some_iff.1 hk'
  obtain ⟨hm, hn⟩ := h k hk
  obtain ⟨hm', hn'⟩ := hf k hm
  exact ⟨hm', hn' ▸ hn⟩

/-! The parts of the invariant that speak of the devices. -/

/-- The invariant's clauses on timer, PPU, joypad, serial port, boot map and bank registers. -/
structure DevicesLegal (s : State) : Prop where
  timer : TimerLegal s
  ppu : PpuLegal s
  joypad : s.joypad.p1LowPrev = s.joypad.low
  serial : s.sc &&& 0x7E = 0
  boot : s.bootMapped = true → s.cfg.hasBoot = true
  banks : BankLegal s

/-- Two states with the same devices: they may differ in the CPU, in IF, IE and SB and in the memory arrays. -/
structure SameDevices (s t : State) : Prop where
  cfg : t.cfg = s.cfg
  timer : t.timer = s.timer
  ppu : t.ppu = s.ppu
  joypad : t.joypad = s.joypad
  sc : t.sc = s.sc
  bootMapped : t.bootMapped = s.bootMapped
  cart : t.mem.cart = s.mem.cart

theorem PpuLegal.of_eq (h : PpuLegal s) (hp : t.ppu = s.ppu) (hc : t.cfg = s.cfg) : PpuLegal t :=
  h.of_samePlace (hp ▸ .refl _) hc

theorem DevicesLegal.of_same (h : DevicesLegal s) (e : SameDevices s t) : DevicesLegal t where
  timer := h.timer.of_eq e.timer e.cfg
  ppu := h.ppu.of_eq e.ppu e.cfg
  joypad := e.joypad ▸ h.joypad
  serial := e.sc ▸ h.serial
  boot := e.bootMapped ▸ e.cfg ▸ h.boot
  banks := fun k hk => h.banks k (e.cart ▸ hk)

theorem DevicesLegal.withTimer (h : DevicesLegal s) {u : Timer} (hu : TimerLegal { s with timer := u }) :
    DevicesLegal { s with timer := u } :=
  ⟨hu, h.ppu.of_eq rfl rfl, h.joypad, h.serial, h.boot, h.banks⟩

/-- A change of the PPU and of IF that keeps the PPU legal. -/
theorem DevicesLegal.withPpu (h : DevicesLegal s) (ht : PpuLegal t)
    (e : t = { s with ppu := t.ppu, ifReg := t.ifReg }) : DevicesLegal t := by
  rw [e] at ht ⊢
  exact ⟨h.timer.of_eq rfl rfl, ht, h.joypad, h.serial, h.boot, h.banks⟩

/-- Whatever the buttons and the row selection become, the joypad check makes the lines' memory equal to them
(60_exceptions R394). -/
theorem DevicesLegal.joypadCheck (h : DevicesLegal s) (j : Joypad) :
    DevicesLegal (State.joypadCheck { s with joypad := j }) := by
  rw [joypadCheck_eq]
  exact ⟨h.timer.of_eq rfl rfl, h.ppu.of_eq rfl rfl, rfl, h.serial, h.boot, h.banks⟩

/-! Bus writes. -/

theorem restat_eq (s : State) : s.restat = { s with ppu := s.restat.ppu, ifReg := s.restat.ifReg } := by
  unfold State.restat
  split_ifs
  · exact updateStatLine_eq s
  · rfl

theorem writeLcdc_eq (s : State) (v : Byte) :
    s.writeLcdc v = { s with ppu := (s.writeLcdc v).ppu, ifReg := (s.writeLcdc v).ifReg } := by
  unfold State.writeLcdc
  dsimp only
  split
  · rfl
  · rw [updateStatLine_eq]
  · rfl
  · rfl

/-- SC stores bits 7 and 0 alone (10_state R42). -/
theorem sc_mask (v : Byte) : v &&& 0x81 &&& 0x7E = 0 := by
  rw [BitVec.and_assoc]
  exact BitVec.and_zero

/-- An I/O write keeps the devices legal (20_memory R75). -/
theorem DevicesLegal.ioWrite (h : DevicesLegal s) (r : IoReg) (v : Byte) : DevicesLegal (s.ioWrite r v) := by
  cases r with
  | p1 => exact h.joypadCheck _
  | sc => exact ⟨h.timer.of_eq rfl rfl, h.ppu.of_eq rfl rfl, h.joypad, sc_mask v, h.boot, h.banks⟩
  | div => exact h.withTimer h.timer.resetDiv
  | tima => exact h.withTimer ⟨h.timer.divSub, h.timer.timaSub, Nat.zero_le _⟩
  | tma => exact h.withTimer ⟨h.timer.divSub, h.timer.timaSub, h.timer.reload⟩
  | tac => exact h.withTimer ⟨h.timer.divSub, h.timer.timaSub, h.timer.reload⟩
  | lcdc => exact h.withPpu (h.ppu.writeLcdc v) (writeLcdc_eq s v)
  | stat => exact h.withPpu (h.ppu.restat _ _) (restat_eq _)
  | lyc => exact h.withPpu (h.ppu.restat _ _) (restat_eq _)
  | boot =>
    refine ⟨h.timer.of_eq rfl rfl, h.ppu.of_eq rfl rfl, h.joypad, h.serial, fun hb => h.boot ?_, h.banks⟩
    have hb' : (if v = 0 then s.bootMapped else false) = true := hb
    split_ifs at hb'
    exact hb'
  | dma =>
    obtain ⟨oam, e⟩ := dmaCopy_eq v 0 160 { s with ppu := { s.ppu with dma := v } }
    show DevicesLegal (State.dmaCopy _ _ _ _)
    rw [e]
    exact ⟨h.timer.of_eq rfl rfl, h.ppu.of_samePlace ⟨rfl, rfl, rfl, rfl, rfl, rfl, rfl, rfl, rfl⟩ rfl, h.joypad,
      h.serial, h.boot, h.banks⟩
  | sb | ifr | apu | ly | unmapped => exact h.of_same ⟨rfl, rfl, rfl, rfl, rfl, rfl, rfl⟩
  | scy | scx | bgp | obp0 | obp1 | wy | wx =>
    exact h.withPpu (h.ppu.of_samePlace ⟨rfl, rfl, rfl, rfl, rfl, rfl, rfl, rfl, rfl⟩ rfl) rfl

theorem DevicesLegal.mapCart (h : DevicesLegal s) {f : Cart → Cart}
    (hf : ∀ k, k.mbc.nonzero → (f k).mbc.nonzero ∧ (f k).nrom = k.nrom) : DevicesLegal (s.mapCart f) :=
  ⟨h.timer.of_eq rfl rfl, h.ppu.of_eq rfl rfl, h.joypad, h.serial, h.boot, h.banks.mapCart hf⟩

/-- A bus write keeps the devices legal (20_memory R64). -/
theorem DevicesLegal.memWrite (h : DevicesLegal s) (a : Word) (v : Byte) : DevicesLegal (s.memWrite a v) := by
  unfold State.memWrite
  cases regionOf a with
  | rom => exact h.mapCart fun k hk => ⟨Mbc.nonzero_write hk a v, rfl⟩
  | xram =>
    refine h.mapCart fun k hk => ?_
    obtain ⟨hm, hn⟩ := k.writeRam_mbc_nrom a v
    exact ⟨hm ▸ hk, hn⟩
  | io off => exact h.ioWrite _ v
  | vram | wram | oam | hram | unusable | ie => exact h.of_same ⟨rfl, rfl, rfl, rfl, rfl, rfl, rfl⟩

theorem DevicesLegal.timerTick (h : DevicesLegal s) : DevicesLegal s.timerTick := by
  have ht := h.timer.timerTick
  rw [timerTick_eq] at ht ⊢
  exact ⟨ht, h.ppu.of_eq rfl rfl, h.joypad, h.serial, h.boot, h.banks⟩

/-- The peripherals' advance keeps them legal (60_exceptions R401). -/
theorem DevicesLegal.advance (h : DevicesLegal s) : DevicesLegal s.advance :=
  advance_keeps s (fun _ g => g.timerTick) (fun u g => g.withPpu g.ppu.ppuTick (ppuTick_eq u)) h

/-! The invariant apart from the control state. -/

/-- The invariant without the control state, which an instruction leaves for a moment before its end restores it
(60_exceptions R403). -/
structure Settled (s : State) : Prop where
  config : s.cfg.wellFormed = true ∧ s.cfg.params.wellFormed = true
  flags : FlagsClean s
  devices : DevicesLegal s
  memory : s.mem.wf = true

theorem inv_iff : s.Inv ↔ Settled s ∧ ControlLegal s := by
  constructor
  · rintro ⟨hcfg, hflags, hcontrol, htimer, hppu, hjoypad, hserial, hboot, hmem, hbanks⟩
    exact ⟨⟨hcfg, hflags, ⟨htimer, hppu, hjoypad, hserial, hboot, hbanks⟩, hmem⟩, hcontrol⟩
  · rintro ⟨⟨hcfg, hflags, hdev, hmem⟩, hcontrol⟩
    exact ⟨hcfg, hflags, hcontrol, hdev.timer, hdev.ppu, hdev.joypad, hdev.serial, hdev.boot, hmem, hdev.banks⟩

/-- A change of the CPU, of IF and of the report that keeps F clean. -/
theorem Settled.withCpu (h : Settled s) (hf : FlagsClean t)
    (e : t = { s with
      regs := t.regs, ime := t.ime, eiDelay := t.eiDelay, run := t.run, haltBug := t.haltBug, ifReg := t.ifReg
      cycles := t.cycles }) : Settled t := by
  refine ⟨?_, hf, h.devices.of_same ⟨?_, ?_, ?_, ?_, ?_, ?_, ?_⟩, ?_⟩ <;> rw [e]
  · exact h.config
  · exact h.memory

theorem Settled.memWrite (h : Settled s) (a : Word) (v : Byte) : Settled (s.memWrite a v) where
  config := by rw [State.memWrite_cfg]; exact h.config
  flags := by rw [FlagsClean, State.memWrite_regs]; exact h.flags
  devices := h.devices.memWrite a v
  memory := wf_memWrite s a v h.memory

theorem Settled.advance (h : Settled s) : Settled s.advance where
  config := by rw [State.advance_cfg]; exact h.config
  flags := by rw [FlagsClean, State.advance_regs]; exact h.flags
  devices := h.devices.advance
  memory := by rw [State.advance_mem]; exact h.memory

/-- Every path of register changes, bus writes and reports keeps what is settled. -/
theorem Settled.path (h : Settled s) (hp : Path s t) : Settled t := by
  refine hp.keeps (P := Settled) (fun u r hu hr => ?_) (fun u a v hu => hu.memWrite a v) (fun u n hu => ?_) h
  · refine hu.withCpu ?_ rfl
    rcases hr with hr | hr
    · exact (congrArg (· &&& 0x0F) hr).trans hu.flags
    · exact hr
  · exact hu.withCpu hu.flags rfl

end Sys2Proof.Machine
end

section
/-! PROOFS. The machine's invariant: every phase of a step keeps it. -/

namespace Sys2Proof.Machine

variable {s t : State}

/-! The control state through an instruction. -/

/-- The control state after a fetch: running, the halt bug consumed, an enable in flight not yet due. -/
structure ControlFetched (s : State) : Prop where
  run : s.run = .running
  haltBug : s.haltBug = false
  delay : s.eiDelay ≤ 1
  delayMasked : s.eiDelay = 1 → s.ime = false

/-- The control state that an instruction leaves to its end: EI has started the delay at most. -/
structure ControlEnding (s : State) : Prop where
  delay : s.eiDelay ≤ 2
  delayMasked : s.eiDelay = 2 → s.ime = false
  haltPending : s.haltBug = true → s.run = .running

/-- Two states with the same control state. -/
structure SameControl (s t : State) : Prop where
  ime : t.ime = s.ime
  eiDelay : t.eiDelay = s.eiDelay
  run : t.run = s.run
  haltBug : t.haltBug = s.haltBug

theorem ControlLegal.of_same (h : ControlLegal s) (e : SameControl s t) : ControlLegal t := by
  obtain ⟨hdelay, hmasked, hpending⟩ := h
  constructor <;> simpa only [e.ime, e.eiDelay, e.run, e.haltBug]

theorem ControlFetched.of_same (h : ControlFetched s) (e : SameControl s t) : ControlFetched t := by
  obtain ⟨hrun, hbug, hdelay, hmasked⟩ := h
  constructor <;> simpa only [e.ime, e.eiDelay, e.run, e.haltBug]

/-- A path of register changes, bus writes and reports leaves the control state. -/
theorem sameControl_of_path (h : Path s t) : SameControl s t := by
  refine h.keeps (P := SameControl s) (fun u r g _ => ⟨g.ime, g.eiDelay, g.run, g.haltBug⟩) (fun u a v g => ?_)
    (fun u n g => ⟨g.ime, g.eiDelay, g.run, g.haltBug⟩) ⟨rfl, rfl, rfl, rfl⟩
  constructor <;> simp [g.ime, g.eiDelay, g.run, g.haltBug]

/-- A fetch, after a wake if the CPU was halted or stopped. -/
theorem ControlLegal.afterFetch (h : ControlLegal s) (n : Nat) : ControlFetched (s.wake.afterFetch n) :=
  ⟨rfl, rfl, h.delay, h.delayMasked⟩

theorem ControlFetched.ending (h : ControlFetched s) : ControlEnding s :=
  ⟨h.delay.trans (by decide), fun h2 => absurd (h2 ▸ h.delay) (by decide), fun _ => h.run⟩

/-- A CPU that leaves the running state with the halt bug clear (45_system R311, R312, R316). -/
theorem ControlFetched.leaves (h : ControlFetched s) (r : RunState) : ControlEnding { s with run := r } :=
  ⟨h.ending.delay, h.ending.delayMasked, fun hb => absurd (h.haltBug.symm.trans hb) (by decide)⟩

theorem ControlEnding.of_same (h : ControlEnding s) (e : SameControl s t) : ControlEnding t := by
  obtain ⟨hdelay, hmasked, hpending⟩ := h
  constructor <;> simpa only [e.ime, e.eiDelay, e.run, e.haltBug]

theorem ControlFetched.lockCpu (h : ControlFetched s) : ControlEnding s.lockCpu :=
  (h.leaves .locked).of_same ⟨rfl, rfl, rfl, rfl⟩

/-- The end of an instruction counts the delay down and sets IME where it runs out (60_exceptions R403). -/
theorem ControlEnding.endOfInstruction (h : ControlEnding s) : ControlLegal s.endOfInstruction := by
  unfold State.endOfInstruction
  split_ifs with h0 h1
  · exact ⟨by omega, fun hd => absurd (hd.symm.trans h0) (by decide), h.haltPending⟩
  · exact ⟨Nat.zero_le _, fun hd => absurd hd (by decide : (0 : Nat) ≠ 1), h.haltPending⟩
  · have h2 : s.eiDelay = 2 := by have := h.delay; omega
    exact ⟨by dsimp only; omega, fun _ => h.delayMasked h2, h.haltPending⟩

/-! What an instruction keeps. -/

theorem ControlFetched.effect {i : Instr} (h : ControlFetched s) (e : Effect s i t) : ControlEnding t := by
  cases e with
  | path hp => exact (h.of_same (sameControl_of_path hp)).ending
  | halt =>
    unfold State.halt
    split_ifs
    · exact (h.leaves .halted).of_same ⟨rfl, rfl, rfl, rfl⟩
    · exact ⟨h.ending.delay, h.ending.delayMasked, fun _ => h.run⟩
  | stop => exact (h.leaves .stopped).of_same ⟨rfl, rfl, rfl, rfl⟩
  | di => exact ⟨Nat.zero_le _, fun _ => rfl, fun _ => h.run⟩
  | ei =>
    unfold State.enableInterrupts
    split_ifs with hei
    · exact ⟨le_rfl, fun _ => hei.1, fun _ => h.run⟩
    · exact h.ending.of_same ⟨rfl, rfl, rfl, rfl⟩
  | reti => exact ⟨Nat.zero_le _, fun h2 => absurd h2 (by decide : (0 : Nat) ≠ 2), fun _ => h.run⟩

theorem Settled.effect {i : Instr} (h : Settled s) (e : Effect s i t) : Settled t := by
  cases e with
  | path hp => exact h.path hp
  | halt =>
    unfold State.halt
    split_ifs <;> exact h.withCpu h.flags rfl
  | stop =>
    have hd := h.devices.withTimer h.devices.timer.resetDiv
    exact ⟨h.config, h.flags, hd.of_same ⟨rfl, rfl, rfl, rfl, rfl, rfl, rfl⟩, h.memory⟩
  | di => exact h.withCpu h.flags rfl
  | ei =>
    unfold State.enableInterrupts
    split_ifs <;> exact h.withCpu h.flags rfl
  | reti => exact h.withCpu h.flags rfl

theorem Settled.endOfInstruction (h : Settled s) : Settled s.endOfInstruction := by
  rw [endOfInstruction_eq]
  exact h.withCpu h.flags rfl

theorem Settled.wake (h : Settled s) : Settled s.wake :=
  h.withCpu h.flags rfl

theorem Settled.afterFetch (h : Settled s) (n : Nat) : Settled (s.afterFetch n) :=
  h.withCpu h.flags rfl

theorem Settled.lockCpu (h : Settled s) : Settled s.lockCpu :=
  h.withCpu h.flags rfl

/-! The phases of a step. -/

/-- The first part of taking an interrupt, before the push: control state and the request are cleared
(60_exceptions R340). -/
def State.acknowledge (s : State) (k : Irq) : State :=
  State.clearRequest { s with ime := false, eiDelay := 0, haltBug := false } k

/-- The rest of taking an interrupt is a path: push, jump and report (60_exceptions R340). -/
theorem dispatch_path (s : State) (k : Irq) : Path (s.acknowledge k) (s.dispatch k) :=
  ((Path.refl.push16 _).setPc _).report _

theorem Settled.dispatch (h : Settled s) (k : Irq) : Settled (s.dispatch k) :=
  have ha : Settled (s.acknowledge k) := h.withCpu h.flags rfl
  ha.path (dispatch_path s k)

theorem controlLegal_acknowledge (s : State) (k : Irq) : ControlLegal (s.acknowledge k) :=
  ⟨Nat.zero_le _, fun _ => rfl, fun hb => absurd hb (by decide : false ≠ true)⟩

theorem controlLegal_dispatch (s : State) (k : Irq) : ControlLegal (s.dispatch k) :=
  (controlLegal_acknowledge s k).of_same (sameControl_of_path (dispatch_path s k))

/-- The CPU phase of a step keeps the invariant (60_exceptions R400). -/
theorem Phase.inv {u : State} (hp : Phase s u) (h : s.Inv) : u.Inv := by
  obtain ⟨hs, hc⟩ := inv_iff.1 h
  rw [inv_iff]
  cases hp with
  | idle =>
    exact ⟨hs.path (.report _ .refl), hc.of_same (sameControl_of_path (.report _ .refl))⟩
  | dispatch k =>
    exact ⟨hs.wake.dispatch k, controlLegal_dispatch _ k⟩
  | instr i v _ _ hx =>
    have e := exec_effect hx
    exact ⟨((hs.wake.afterFetch _).effect e).endOfInstruction, ((hc.afterFetch _).effect e).endOfInstruction⟩
  | illegal =>
    exact ⟨(hs.wake.afterFetch 1).lockCpu.endOfInstruction, (hc.afterFetch 1).lockCpu.endOfInstruction⟩

/-- The peripherals' advance keeps the invariant (60_exceptions R401). -/
theorem State.Inv.advance (h : s.Inv) : s.advance.Inv := by
  obtain ⟨hs, hc⟩ := inv_iff.1 h
  exact inv_iff.2 ⟨hs.advance,
    hc.of_same ⟨State.advance_ime s, State.advance_eiDelay s, State.advance_run s, State.advance_haltBug s⟩⟩

/-- Settles O55: a step is a phase of the CPU and the peripherals' advance, and each keeps the invariant. -/
theorem everyStepKeepsInvariant : Obligations.EveryStepKeepsInvariant := by
  intro s t h hstep
  obtain ⟨u, hp, rfl⟩ := step_phase hstep
  exact (hp.inv h).advance

end Sys2Proof.Machine
end

section
/-! PROOFS. The machine's invariant at reset, after construction and loading, and through the host's calls. -/

namespace Sys2Proof.Machine

variable {s : State}

/-! The reset state. -/

/-- R49's column without a boot ROM, A by the revision. -/
theorem regs_powerOn_noBoot {c : Config} (h : c.hasBoot = false) : Regs.powerOn c =
    { a := if c.revision = .mgb then 0xFF else 0x01, f := 0xB0, b := 0x00, c := 0x13, d := 0x00, e := 0xD8
      h := 0x01, l := 0x4D, sp := 0xFFFE, pc := 0x0100 } := by
  unfold Regs.powerOn
  rw [h]

/-- R49's column with a boot ROM. -/
theorem regs_powerOn_boot {c : Config} (h : c.hasBoot = true) : Regs.powerOn c =
    { a := 0, f := 0, b := 0, c := 0, d := 0, e := 0, h := 0, l := 0, sp := 0, pc := 0 } := by
  unfold Regs.powerOn
  rw [h]

theorem timerLegal_powerOn (c : Config) (cart : Option Cart) (hp : c.params.wellFormed = true) :
    TimerLegal (State.powerOn c cart) := by
  simp only [Params.wellFormed, Bool.and_eq_true, decide_eq_true_eq] at hp
  obtain ⟨⟨⟨hdiv, -⟩, -⟩, -⟩ := hp
  exact ⟨hdiv, (by decide : 0 < 1024), Nat.zero_le _⟩

/-- Without a boot ROM the LCD is on at reset, with one it is off (10_state R50). -/
theorem lcdOn_powerOn (c : Config) : (Ppu.powerOn c).lcdOn = !c.hasBoot := by
  unfold Ppu.lcdOn Ppu.powerOn
  cases c.hasBoot <;> decide

/-- No STAT condition is selected at reset (10_state R50). -/
theorem statLevel_powerOn (c : Config) : (Ppu.powerOn c).statLevel = false := by
  simp [Ppu.powerOn, Ppu.statLevel]

/-- The PPU at reset is off, or on at the first dot of the frame (10_state R50). -/
theorem ppuLegal_powerOn (c : Config) (cart : Option Cart) : PpuLegal (State.powerOn c cart) := by
  have hlcd := lcdOn_powerOn c
  refine ⟨fun hon => ?_, fun hoff => ?_, Nat.zero_le _, rfl, rfl⟩
  · have hb : c.hasBoot = false := by simpa using hlcd.symm.trans hon
    have hmode : (Ppu.powerOn c).mode = .oamScan := by rw [Ppu.powerOn, hb]; rfl
    exact ⟨frameLines_pos, lineCycles_pos, hmode, (statLevel_powerOn c).symm, fun _ => Nat.zero_le _⟩
  · have hb : c.hasBoot = true := by simpa using hlcd.symm.trans hoff
    have hmode : (Ppu.powerOn c).mode = .hblank := by rw [Ppu.powerOn, hb]; rfl
    exact ⟨rfl, rfl, hmode, rfl⟩

theorem flagsClean_powerOn (c : Config) (cart : Option Cart) : FlagsClean (State.powerOn c cart) := by
  show (Regs.powerOn c).f &&& 0x0F = 0
  cases hb : c.hasBoot
  · rw [regs_powerOn_noBoot hb]; exact (by decide : (0xB0 : Byte) &&& 0x0F = 0)
  · rw [regs_powerOn_boot hb]; exact (by decide : (0 : Byte) &&& 0x0F = 0)

/-- A cartridge that can be loaded: its arrays canonical, its image of at least one bank. -/
def CartsSound (cart : Option Cart) : Prop := ∀ k, cart = some k → k.wf = true ∧ 0 < k.nrom

theorem bankLegal_powerOn (c : Config) {cart : Option Cart} (hk : CartsSound cart) :
    BankLegal (State.powerOn c cart) := by
  intro k' hk'
  obtain ⟨k, hc, rfl⟩ := Option.map_eq_some_iff.1 hk'
  exact ⟨k.mbc.nonzero_powerOn, (hk k hc).2⟩

/-- The reset state of every accepted Config satisfies the invariant (10_state R49 to R52). -/
theorem inv_powerOn {c : Config} {cart : Option Cart} (hc : c.wellFormed = true) (hp : c.params.wellFormed = true)
    (hk : CartsSound cart) : (State.powerOn c cart).Inv where
  config := ⟨hc, hp⟩
  flags := flagsClean_powerOn c cart
  control := ⟨Nat.zero_le _, fun _ => rfl, fun _ => rfl⟩
  timer := timerLegal_powerOn c cart hp
  ppu := ppuLegal_powerOn c cart
  joypad := (by decide : Joypad.powerOn.p1LowPrev = Joypad.powerOn.low)
  serial := (by decide : (0 : Byte) &&& 0x7E = 0)
  boot := id
  memory := wf_powerOn c cart fun k e => (hk k e).1
  banks := bankLegal_powerOn c hk

theorem cartsSound_none : CartsSound none := fun _ e => by cases e

theorem State.Inv.cartsSound (h : s.Inv) : CartsSound s.mem.cart :=
  fun k e => ⟨((Memory.wf_iff _).1 h.memory).1 k e, (h.banks k e).2⟩

/-- An accepted image has banks (20_memory R91). -/
theorem cartOfImage_nrom_pos {bytes : List Byte} {k : Cart} (h : cartOfImage bytes = some k) : 0 < k.nrom := by
  simp only [cartOfImage] at h
  repeat' split at h
  all_goals cases h
  exact Nat.mul_pos (by decide) (Nat.two_pow_pos _)

/-! The host's calls. -/

/-- `reset()` (70_reset_and_hazards R430). -/
theorem State.Inv.resetCall (h : s.Inv) : s.resetCall.Inv :=
  inv_powerOn h.config.1 h.config.2 h.cartsSound

/-- `load_image`, accepted or refused (70_reset_and_hazards R441, R442). -/
theorem State.Inv.loadImage (h : s.Inv) (bytes : List Byte) : (s.loadImage bytes).state.Inv := by
  unfold State.loadImage
  split
  · exact h
  · rename_i k hk
    exact inv_powerOn h.config.1 h.config.2 fun _ e => by
      cases e
      exact ⟨wf_cartOfImage hk, cartOfImage_nrom_pos hk⟩

/-- The clearing of VBLANK_EVENT (60_exceptions R406). -/
theorem State.Inv.clearVBlankEvent (h : s.Inv) : s.clearVBlankEvent.Inv := by
  obtain ⟨⟨hcfg, hflags, hdev, hmem⟩, hc⟩ := inv_iff.1 h
  have hppu : PpuLegal s.clearVBlankEvent :=
    hdev.ppu.of_samePlace ⟨rfl, rfl, rfl, rfl, rfl, rfl, rfl, rfl, rfl⟩ rfl
  exact inv_iff.2 ⟨⟨hcfg, hflags, hdev.withPpu hppu rfl, hmem⟩, hc.of_same ⟨rfl, rfl, rfl, rfl⟩⟩

/-- `set_button_state` (70_reset_and_hazards R453). -/
theorem State.Inv.setButtonState (h : s.Inv) (k : Button) (pressed : Bool) : (s.setButtonState k pressed).Inv := by
  obtain ⟨⟨hcfg, hflags, hdev, hmem⟩, hc⟩ := inv_iff.1 h
  have hd : DevicesLegal (s.setButtonState k pressed) := hdev.joypadCheck _
  unfold State.setButtonState at hd ⊢
  rw [joypadCheck_eq] at hd ⊢
  exact inv_iff.2 ⟨⟨hcfg, hflags, hd, hmem⟩, hc.of_same ⟨rfl, rfl, rfl, rfl⟩⟩

/-- An import changes the cartridge's external RAM alone (70_reset_and_hazards R452). -/
theorem importExternalRam_eq (s : State) (bytes : List Byte) :
    (s.importExternalRam bytes).state = s ∨
      ∃ x : Cart → Cells 8, (s.importExternalRam bytes).state = s.mapCart fun k => { k with xram := x k } := by
  unfold State.importExternalRam
  split
  · exact .inl rfl
  · split
    · exact .inr ⟨_, rfl⟩
    · exact .inl rfl

/-- `import_external_ram` (70_reset_and_hazards R452). -/
theorem State.Inv.importExternalRam (h : s.Inv) (bytes : List Byte) : (s.importExternalRam bytes).state.Inv := by
  have hmem := wf_importExternalRam s bytes h.memory
  obtain e | ⟨x, e⟩ := importExternalRam_eq s bytes <;> rw [e] at hmem ⊢
  · exact h
  · obtain ⟨⟨hcfg, hflags, hdev, -⟩, hc⟩ := inv_iff.1 h
    exact inv_iff.2 ⟨⟨hcfg, hflags, hdev.mapCart fun _ hk => ⟨hk, rfl⟩, hmem⟩, hc.of_same ⟨rfl, rfl, rfl, rfl⟩⟩

/-- Construction accepts well-formed Configs alone, and leaves their reset state (70_reset_and_hazards R431, R444). -/
theorem construct_eq_ok {c : Config} {t : State} (h : construct c = .ok t) :
    c.wellFormed = true ∧ t = State.powerOn c none := by
  unfold construct at h
  split_ifs at h with hc
  exact ⟨hc, by cases h; rfl⟩

/-- Settles O56: the reset state of every accepted Config has the invariant, and each host call keeps it. -/
theorem invariantHoldsAtReset : Obligations.InvariantHoldsAtReset := by
  refine ⟨inv_powerOn (by decide) (by decide) cartsSound_none, fun c s bytes hp hs => ?_, fun s h => ?_⟩
  · obtain ⟨hc, rfl⟩ := construct_eq_ok hs
    have h := inv_powerOn hc hp cartsSound_none
    exact ⟨h, h.loadImage bytes⟩
  · exact ⟨h.resetCall, h.clearVBlankEvent, h.setButtonState,
      fun bytes => ⟨h.importExternalRam bytes, h.loadImage bytes⟩⟩

end Sys2Proof.Machine
end

section
/-! PROOFS. The reset values of the CPU and of the peripherals, both columns (10_state R49, R50). -/

namespace Sys2Proof.Machine

/-- Settles O1, by the two columns of R49. -/
theorem resetCpuValues : Obligations.ResetCpuValues := by
  intro c k
  refine ⟨rfl, rfl, rfl, rfl, fun hb => ?_, fun hb => ?_⟩
  · simp only [State.powerOn, regs_powerOn_noBoot hb, true_and]
    exact ⟨fun hd => by simp [hd], fun hm => by simp [hm]⟩
  · simp only [State.powerOn, regs_powerOn_boot hb, and_self]

/-! What P1, SC, TAC and IF read as at reset, with the bits that are not stored (10_state R50, 20_memory R75). -/

theorem memRead_powerOn_p1 (c : Config) (k : Option Cart) : (State.powerOn c k).memRead 0xFF00 = 0xCF :=
  (memRead_io _ 0x00 (by decide)).trans (by decide : Joypad.powerOn.p1 = 0xCF)

theorem memRead_powerOn_sc (c : Config) (k : Option Cart) : (State.powerOn c k).memRead 0xFF02 = 0x7E :=
  (memRead_io _ 0x02 (by decide)).trans (by decide : (0x7E : Byte) ||| (0 &&& 0x81) = 0x7E)

theorem memRead_powerOn_tac (c : Config) (k : Option Cart) : (State.powerOn c k).memRead 0xFF07 = 0xF8 :=
  (memRead_io _ 0x07 (by decide)).trans (by decide : 0b11111#5 ++ 0#3 = 0xF8#8)

theorem memRead_powerOn_if (c : Config) (k : Option Cart) :
    (State.powerOn c k).memRead 0xFF0F = if c.hasBoot then 0xE0 else 0xE1 := by
  refine (memRead_io _ 0x0F (by decide)).trans ?_
  show 0b111#3 ++ ifPowerOn c = _
  unfold ifPowerOn
  split <;> rfl

/-- Settles O2: the stored values are those of the power-on parts, the read values those of the I/O window. -/
theorem resetPeripheralValues : Obligations.ResetPeripheralValues := by
  intro c k
  exact ⟨rfl, rfl, rfl, rfl, rfl, rfl, rfl, rfl, rfl, rfl, rfl, rfl, rfl, rfl, rfl, rfl, rfl, rfl, rfl, rfl, rfl,
    rfl, rfl, rfl, rfl, rfl, rfl, rfl, rfl, rfl, memRead_powerOn_sc c k, memRead_powerOn_tac c k,
    memRead_powerOn_p1 c k, memRead_powerOn_if c k⟩

end Sys2Proof.Machine
end

section
/-! PROOFS. The bus map (20_memory R64): the region of each address range, and what a read and a write of a region
are. -/

namespace Sys2Proof.Machine

variable {s : State} {a : Word} {o : Nat}

theorem regionOf_vram (h1 : 0x8000 ≤ a.toNat) (h2 : a.toNat < 0xA000) : regionOf a = .vram (a.toNat - 0x8000) := by
  unfold regionOf
  dsimp only
  rw [if_neg (by omega), if_pos h2]

theorem regionOf_wram (h1 : 0xC000 ≤ a.toNat) (h2 : a.toNat < 0xE000) : regionOf a = .wram (a.toNat - 0xC000) := by
  unfold regionOf
  dsimp only
  rw [if_neg (by omega), if_neg (by omega), if_neg (by omega), if_pos h2]

theorem regionOf_echo (h1 : 0xE000 ≤ a.toNat) (h2 : a.toNat < 0xFE00) : regionOf a = .wram (a.toNat - 0xE000) := by
  unfold regionOf
  dsimp only
  rw [if_neg (by omega), if_neg (by omega), if_neg (by omega), if_neg (by omega), if_pos h2]

theorem regionOf_unusable (h1 : 0xFEA0 ≤ a.toNat) (h2 : a.toNat < 0xFF00) : regionOf a = .unusable := by
  unfold regionOf
  dsimp only
  rw [if_neg (by omega), if_neg (by omega), if_neg (by omega), if_neg (by omega), if_neg (by omega),
    if_neg (by omega), if_pos h2]

theorem regionOf_hram_or_ie (h : 0xFF80 ≤ a.toNat) :
    regionOf a = .hram (a.toNat - 0xFF80) ∨ regionOf a = .ie := by
  unfold regionOf
  dsimp only
  rw [if_neg (by omega), if_neg (by omega), if_neg (by omega), if_neg (by omega), if_neg (by omega),
    if_neg (by omega), if_neg (by omega), if_neg (by omega)]
  split_ifs
  · exact .inl rfl
  · exact .inr rfl

/-- An address of the I/O window, from its number. -/
theorem regionOf_ioWindow (h1 : 0xFF00 ≤ a.toNat) (h2 : a.toNat < 0xFF80) : regionOf a = .io (a.toNat - 0xFF00) := by
  have e := regionOf_io (a.toNat - 0xFF00) (by omega)
  rwa [Nat.add_sub_cancel' h1, BitVec.ofNat_toNat, BitVec.setWidth_eq] at e

/-- OAM is 0xFE00 to 0xFE9F. -/
theorem regionOf_oam_iff : regionOf a = .oam o ↔ a.toNat = 0xFE00 + o ∧ o < 160 := by
  unfold regionOf
  dsimp only
  constructor
  · intro h
    split_ifs at h
    injection h with h
    omega
  · rintro ⟨h, ho⟩
    rw [if_neg (by omega), if_neg (by omega), if_neg (by omega), if_neg (by omega), if_neg (by omega),
      if_pos (by omega), h, Nat.add_sub_cancel_left]

theorem memRead_of_wram (h : regionOf a = .wram o) : s.memRead a = s.mem.wram.read o := by
  rw [State.memRead, h]

theorem memWrite_of_wram (h : regionOf a = .wram o) (v : Byte) :
    s.memWrite a v = { s with mem := { s.mem with wram := s.mem.wram.write o v } } := by
  rw [State.memWrite, h]

theorem memRead_of_oam (h : regionOf a = .oam o) : s.memRead a = s.mem.oam.read o := by
  rw [State.memRead, h]

theorem memRead_of_ie (h : regionOf a = .ie) : s.memRead a = s.ie := by
  rw [State.memRead, h]

theorem memWrite_of_ie (h : regionOf a = .ie) (v : Byte) : s.memWrite a v = { s with ie := v } := by
  rw [State.memWrite, h]

theorem memRead_of_unusable (h : regionOf a = .unusable) : s.memRead a = 0xFF := by
  rw [State.memRead, h]

theorem memWrite_of_unusable (h : regionOf a = .unusable) (v : Byte) : s.memWrite a v = s := by
  rw [State.memWrite, h]

theorem memRead_of_io (h : regionOf a = .io o) : s.memRead a = s.ioRead (ioRegAt o) := by
  rw [State.memRead, h]

theorem memWrite_of_io (h : regionOf a = .io o) (v : Byte) : s.memWrite a v = s.ioWrite (ioRegAt o) v := by
  rw [State.memWrite, h]

end Sys2Proof.Machine
end

section
/-! PROOFS. The plain arrays read back what was written, WRAM through its echo too (20_memory R61, R69, R76). -/

namespace Sys2Proof.Machine

variable {s : State} {a : Word}

/-- A byte written to a plain array, or to IE, reads back (20_memory R64, R76). -/
theorem memRead_memWrite_plain (hw : s.mem.wf = true) (v : Byte)
    (h : (0x8000 ≤ a.toNat ∧ a.toNat < 0xA000) ∨ (0xC000 ≤ a.toNat ∧ a.toNat < 0xFEA0) ∨ 0xFF80 ≤ a.toNat) :
    (s.memWrite a v).memRead a = v := by
  have hwram {o} (h : regionOf a = .wram o) := memRead_write_wram s hw a o v h
  rcases h with ⟨h1, h2⟩ | ⟨h1, h2⟩ | h1
  · exact memRead_write_vram s hw a _ v (regionOf_vram h1 h2)
  · rcases Nat.lt_or_ge a.toNat 0xE000 with h3 | h3
    · exact hwram (regionOf_wram h1 h3)
    · rcases Nat.lt_or_ge a.toNat 0xFE00 with h4 | h4
      · exact hwram (regionOf_echo h3 h4)
      · exact memRead_write_oam s hw a (a.toNat - 0xFE00) v (regionOf_oam_iff.2 (by omega))
  · rcases regionOf_hram_or_ie h1 with h | h
    · exact memRead_write_hram s hw a _ v h
    · rw [memRead_of_ie h, memWrite_of_ie h]

/-- An address of WRAM and its echo are one cell (20_memory R69). -/
theorem regionOf_add_echo (h1 : 0xC000 ≤ a.toNat) (h2 : a.toNat < 0xDE00) :
    regionOf a = .wram (a.toNat - 0xC000) ∧ regionOf (a + 0x2000) = .wram (a.toNat - 0xC000) := by
  have e : (a + 0x2000).toNat = a.toNat + 0x2000 := by bv_omega
  have h := regionOf_echo (a := a + 0x2000) (by omega) (by omega)
  rw [e, show a.toNat + 0x2000 - 0xE000 = a.toNat - 0xC000 by omega] at h
  exact ⟨regionOf_wram h1 (by omega), h⟩

/-- Settles O42, region by region; an echo address has the region of its WRAM address. -/
theorem plainMemoryReadsBack : Obligations.PlainMemoryReadsBack := by
  intro s a v hw
  refine ⟨memRead_memWrite_plain hw v, fun ⟨h1, h2⟩ => ?_, fun ⟨h1, h2⟩ => ?_⟩
  · have hback := memRead_memWrite_plain hw v (a := a) (.inr (.inl ⟨h1, by omega⟩))
    obtain ⟨ha, he⟩ := regionOf_add_echo h1 h2
    have hread (t : State) : t.memRead (a + 0x2000) = t.memRead a := by
      rw [memRead_of_wram he, memRead_of_wram ha]
    refine ⟨hread s, ?_, (hread _).trans hback⟩
    rw [memWrite_of_wram he, ← memWrite_of_wram ha]
    exact hback
  · have h := regionOf_unusable h1 h2
    exact ⟨memRead_of_unusable h, memWrite_of_unusable h v⟩

end Sys2Proof.Machine
end

section
/-! PROOFS. The frame of a bus write (20_memory R78): which reads it can change, and that it keeps the image. -/

namespace Sys2Proof.Machine

variable {s : State} {a w : Word} {o p : Nat}

/-! The I/O window. -/

/-- The register at an offset determines the address. -/
theorem eq_ofNat_of_ioOff {r : IoReg} {n : Nat} (ha : regionOf a = .io p) (hr : ioRegAt p = r)
    (hn : ioOff r = some n) : a = BitVec.ofNat 16 (0xFF00 + n) := by
  obtain ⟨hp, hlt⟩ := io_ne ha
  have hpn : p = n := by
    rcases ioOff_ioRegAt p hlt with h | h
    · rw [← hr, h] at hn
      cases hn
    · rw [hr, hn] at h
      exact (Option.some.inj h).symm
  rw [← hpn, ← hp, BitVec.ofNat_toNat, BitVec.setWidth_eq]

/-- `touches` lists every address whose register a write to the I/O window affects. -/
theorem touches_of_mem_affects (hw : regionOf w = .io o) (ha : regionOf a = .io p)
    (h : ioRegAt p ∈ (ioRegAt o).affects) : s.touches w a = true := by
  have at_ {r : IoReg} {n : Nat} := eq_ofNat_of_ioOff (r := r) (n := n) ha
  have same {n : Nat} (e : ioRegAt p = ioRegAt o) (hn : ioOff (ioRegAt o) = some n) : a = w :=
    (eq_ofNat_of_ioOff ha e hn).trans (eq_ofNat_of_ioOff hw rfl hn).symm
  simp only [State.touches, hw]
  cases hq : ioRegAt o <;> rw [hq] at h same <;>
    simp only [IoReg.affects, List.mem_cons, List.not_mem_nil, or_false] at h
  case p1 => rcases h with h | h <;> rw [at_ h rfl] <;> rfl
  case lcdc => rcases h with h | h | h | h <;> rw [at_ h rfl] <;> rfl
  case stat => rcases h with h | h <;> rw [at_ h rfl] <;> rfl
  case lyc => rcases h with h | h | h <;> rw [at_ h rfl] <;> rfl
  case dma => rw [at_ h rfl]; rfl
  all_goals exact beq_iff_eq.2 (same h rfl)

/-- A write to the DMA register touches OAM (20_memory R84). -/
theorem touches_oam_of_dma (hw : regionOf w = .io o) (hq : ioRegAt o = .dma) (ha : regionOf a = .oam p) :
    s.touches w a = true := by
  obtain ⟨ha, hp⟩ := regionOf_oam_iff.1 ha
  simp only [State.touches, hw, hq, Bool.or_eq_true, decide_eq_true_eq]
  exact .inr (by omega)

/-- A write to the boot register touches every address of the overlay (20_memory R66). -/
theorem touches_overlay_of_boot (hw : regionOf w = .io o) (hq : ioRegAt o = .boot) (ha : a.toNat < 0x100) :
    s.touches w a = true := by
  simp only [State.touches, hw, hq, decide_eq_true_eq]
  exact ha

/-- A read sees of an I/O write the registers affected, OAM after a copy, and the overlay after the boot register. -/
theorem memRead_ioWrite_of_not_affected (q : IoReg) (v : Byte)
    (hio : ∀ p, regionOf a = .io p → ioRegAt p ∉ q.affects) (hoam : ∀ p, regionOf a = .oam p → q ≠ .dma)
    (hboot : a.toNat < 0x100 → q ≠ .boot) : (s.ioWrite q v).memRead a = s.memRead a := by
  obtain ⟨hcart, hvram, hwram, hhram, hie, hcfg, hoam', hmap⟩ := ioWrite_mem s q v
  unfold State.memRead
  cases ha : regionOf a with
  | io p => exact ioWrite_io s q _ v (hio p ha)
  | oam p => exact congrArg (Cells.read · p) (hoam' (hoam p ha))
  | rom =>
    have hbyte : (s.ioWrite q v).bootByte a = s.bootByte a := by
      by_cases hlt : a.toNat < 0x100
      · simp only [State.bootByte, hmap (hboot hlt), hcfg]
      · rw [bootByte_bare _ _ (.inr (.inr (by omega))), bootByte_bare _ _ (.inr (.inr (by omega)))]
    simp only [State.readRomRange, hbyte, hcart]
  | xram => simp only [State.readRamRange, hcart]
  | vram p => exact congrArg (Cells.read · p) hvram
  | wram p => exact congrArg (Cells.read · p) hwram
  | hram p => exact congrArg (Cells.read · p) hhram
  | ie => exact hie
  | unusable => rfl

/-! The cartridge. -/

/-- A change of the cartridge is seen through its two windows alone. -/
theorem memRead_mapCart_of_ne (f : Cart → Cart) (hrom : regionOf a ≠ .rom) (hxram : regionOf a ≠ .xram) :
    (s.mapCart f).memRead a = s.memRead a := by
  unfold State.memRead
  cases ha : regionOf a with
  | rom => exact absurd ha hrom
  | xram => exact absurd ha hxram
  | io p => cases ioRegAt p <;> rfl
  | vram | wram | oam | hram | ie | unusable => rfl

/-- A write to the external RAM window changes the RAM's cells alone (20_memory R70). -/
theorem Cart.writeRam_eq (k : Cart) (w : Word) (v : Byte) :
    k.writeRam w v = { k with xram := (k.writeRam w v).xram } := by
  unfold Cart.writeRam
  split <;> rfl

/-- A write to the external RAM window leaves the reads of every address that reaches another cell, or none. -/
theorem Cart.readRam_writeRam_other (k : Cart) (v : Byte)
    (h : (k.ramIndex w).isSome = true → k.ramIndex a ≠ k.ramIndex w) :
    (k.writeRam w v).readRam a = k.readRam a := by
  unfold Cart.writeRam
  cases hw : k.ramIndex w with
  | none => rfl
  | some i =>
    rw [hw] at h
    show Cart.readRam { k with xram := _ } a = k.readRam a
    have hindex (x : Cells 8) : Cart.ramIndex { k with xram := x } a = k.ramIndex a := rfl
    unfold Cart.readRam
    rw [hindex]
    cases ha : k.ramIndex a with
    | none => rfl
    | some j =>
      have hne : j ≠ i := fun e => h rfl (e ▸ ha)
      exact congrArg (Cart.ramReadValue k.mbc) (Cells.read_write_other _ _ hne)

/-- A write through the external RAM window leaves the reads of the ROM range. -/
theorem readRomRange_writeRam (v : Byte) : (s.mapCart fun k => k.writeRam w v).readRomRange a = s.readRomRange a := by
  have hread (k : Cart) : (k.writeRam w v).readRom a = k.readRom a := by rw [Cart.writeRam_eq]; rfl
  unfold State.readRomRange State.mapCart
  cases s.mem.cart with
  | none => rfl
  | some k => simp only [Option.map, hread]; rfl

/-- A write through the external RAM window leaves the machine's reads of every other cell (20_memory R70). -/
theorem readRamRange_writeRam_other (v : Byte) (h : (s.ramCell w).isSome = true → s.ramCell a ≠ s.ramCell w) :
    (s.mapCart fun k => k.writeRam w v).readRamRange a = s.readRamRange a := by
  unfold State.ramCell at h
  unfold State.readRamRange State.mapCart
  cases hk : s.mem.cart with
  | none => rfl
  | some k =>
    rw [hk] at h
    exact k.readRam_writeRam_other v h

/-- A bus write changes no read that `touches` does not list for it (20_memory R64, R78). -/
theorem memRead_memWrite_of_not_touches (v : Byte) (h : s.touches w a = false) :
    (s.memWrite w v).memRead a = s.memRead a := by
  have hno : ¬ s.touches w a = true := by simp [h]
  cases hw : regionOf w with
  | io o =>
    rw [memWrite_of_io hw]
    exact memRead_ioWrite_of_not_affected _ v
      (fun p ha hm => hno (touches_of_mem_affects hw ha hm)) (fun p ha hq => hno (touches_oam_of_dma hw hq ha))
      (fun ha hq => hno (touches_overlay_of_boot hw hq ha))
  | unusable => rw [memWrite_of_unusable hw]
  | rom =>
    simp only [State.touches, hw, Bool.or_eq_false_iff, beq_eq_false_iff_ne] at h
    simp only [State.memWrite, hw]
    exact memRead_mapCart_of_ne _ h.1 h.2
  | xram =>
    simp only [State.touches, hw] at h
    simp only [State.memWrite, hw]
    by_cases ha : regionOf a = .xram
    · simp only [State.memRead, ha]
      refine readRamRange_writeRam_other v fun hsome => ?_
      simpa [ha, hsome] using h
    · by_cases hr : regionOf a = .rom
      · simp only [State.memRead, hr]
        exact readRomRange_writeRam v
      · exact memRead_mapCart_of_ne _ hr ha
  | ie =>
    simp only [State.touches, hw, beq_eq_false_iff_ne] at h
    simp only [State.memRead, State.memWrite, hw]
    cases ha : regionOf a with
    | ie => exact absurd ha h
    | _ => rfl
  | vram o | wram o | oam o | hram o =>
    simp only [State.touches, hw, beq_eq_false_iff_ne] at h
    simp only [State.memRead, State.memWrite, hw]
    cases ha : regionOf a <;> try rfl
    exact Cells.read_write_other _ _ fun e => h (e ▸ ha)

/-- A bus write changes the cartridge by a function that keeps its image and sizes (20_memory R68, R70). -/
theorem memWrite_cart (s : State) (w : Word) (v : Byte) :
    ∃ f : Cart → Cart, (s.memWrite w v).mem.cart = s.mem.cart.map f ∧
      ∀ k, (f k).rom = k.rom ∧ (f k).nrom = k.nrom ∧ (f k).ramSize = k.ramSize := by
  have same {t : State} (h : t.mem.cart = s.mem.cart) : ∃ f : Cart → Cart, t.mem.cart = s.mem.cart.map f ∧
      ∀ k, (f k).rom = k.rom ∧ (f k).nrom = k.nrom ∧ (f k).ramSize = k.ramSize :=
    ⟨id, by rw [h, Option.map_id, id], fun _ => ⟨rfl, rfl, rfl⟩⟩
  unfold State.memWrite
  cases regionOf w with
  | rom => exact ⟨fun k => k.writeRom w v, rfl, fun _ => ⟨rfl, rfl, rfl⟩⟩
  | xram =>
    refine ⟨fun k => k.writeRam w v, rfl, fun k => ?_⟩
    dsimp only
    rw [Cart.writeRam_eq]
    exact ⟨rfl, rfl, rfl⟩
  | io o =>
    obtain ⟨hcart, -⟩ := ioWrite_mem s (ioRegAt o) v
    exact same hcart
  | vram | wram | oam | hram | ie | unusable => exact same rfl

/-- Settles O43: the reads by the region written, the rest since no bus write reaches the CPU or the image. -/
theorem writeTouchesOnlyItsBytes : Obligations.WriteTouchesOnlyItsBytes := by
  intro s w v
  obtain ⟨hregs, hime, hei, hrun, hhalt, hcfg, -⟩ := keepsCpu_memWrite s w v
  obtain ⟨f, hf, hkept⟩ := memWrite_cart s w v
  refine ⟨fun a h => memRead_memWrite_of_not_touches v h, hregs, ⟨hime, hei, hrun, hhalt, hcfg⟩, fun k hk => ?_,
    fun hk => ?_⟩
  · exact ⟨f k, by rw [hf, hk, Option.map_some], hkept k⟩
  · rw [hf, hk, Option.map_none]

end Sys2Proof.Machine
end

section
/-! PROOFS. The I/O window (20_memory R75): what each register reads after a write, and the writes whose effect is one
field or nothing. -/

namespace Sys2Proof.Machine

variable {s : State} {a : Word} {o : Nat}

/-! The bits that a register stores and those that are fixed (20_memory R75, 10_state R39). -/

theorem tac_readBits (v : Byte) : 0b11111#5 ++ v.extractLsb' 0 3 = 0xF8 ||| (v &&& 0x07) := by
  revert v; decide

theorem ifReg_readBits (v : Byte) : 0b111#3 ++ v.extractLsb' 0 5 = 0xE0 ||| (v &&& 0x1F) := by
  revert v; decide

theorem p1_readBits (sel : BitVec 2) (low : BitVec 4) :
    0b11#2 ++ sel ++ low = BitVec.ofNat 8 (0xC0 + 16 * sel.toNat + low.toNat) := by
  revert sel low; decide

/-- STAT's fixed and stored bits, apart from the three that follow the PPU. -/
theorem stat_readBits (v : Byte) : 1#1 ++ v.extractLsb' 3 4 ++ 0#3 = 0x80 ||| (v &&& 0x78) := by
  revert v; decide

theorem stat_split (sel : BitVec 4) (c : BitVec 1) (m : BitVec 2) :
    1#1 ++ sel ++ c ++ m = (1#1 ++ sel ++ 0#3) ||| (0#5 ++ c ++ m) := by
  revert sel c m; decide

theorem stat_lowBits (sel : BitVec 4) (c : BitVec 1) (m : BitVec 2) :
    (1#1 ++ sel ++ c ++ m) &&& 0x07#8 = 0#5 ++ c ++ m := by
  revert sel c m; decide

/-- P1_SEL is bits 5 and 4 of the byte written. -/
theorem extract_p1Sel (v : Byte) : v.extractLsb' 4 2 = BitVec.ofNat 2 (v.toNat / 16) := by
  revert v; decide

/-- The low bits of a byte as a number. -/
theorem extract_low (v : Byte) (w : Nat) : v.extractLsb' 0 w = BitVec.ofNat w v.toNat := rfl

/-! Registers that read as written. -/

/-- The registers of the window that store all eight bits and read as stored. -/
def byteRegs : List IoReg :=
  [.sb, .tima, .tma, .lcdc, .scy, .scx, .lyc, .dma, .bgp, .obp0, .obp1, .wy, .wx]

/-- A change of LCDC stores the byte, whatever else the switch of the LCD does (60_exceptions R381, R382). -/
theorem writeLcdc_lcdc (s : State) (v : Byte) : (s.writeLcdc v).ppu.lcdc = v := by
  unfold State.writeLcdc
  dsimp only
  split
  · rfl
  · exact statLine_io _ .lcdc (by decide)
  · rfl
  · rfl

theorem ioRead_ioWrite_byteRegs {r : IoReg} (h : r ∈ byteRegs) (v : Byte) : (s.ioWrite r v).ioRead r = v := by
  cases r
  case lcdc => exact writeLcdc_lcdc s v
  case lyc => exact restat_io _ .lyc (by decide)
  case dma =>
    obtain ⟨oam, e⟩ := dmaCopy_eq v 0 160 { s with ppu := { s.ppu with dma := v } }
    exact congrArg (fun t : State => t.ppu.dma) e
  case sb | tima | tma | scy | scx | bgp | obp0 | obp1 | wy | wx => rfl
  all_goals exact absurd h (by simp [byteRegs])

/-- Their offsets in the window. -/
def byteOffsets : List Nat :=
  [0x01, 0x05, 0x06, 0x40, 0x42, 0x43, 0x45, 0x46, 0x47, 0x48, 0x49, 0x4A, 0x4B]

theorem ioRegAt_byteOffsets : ∀ n ∈ byteOffsets, n < 0x80 ∧ ioRegAt n ∈ byteRegs := by
  decide

/-- Reading back at an address of the window is reading its register back. -/
theorem memRead_memWrite_io (h : regionOf a = .io o) (v : Byte) :
    (s.memWrite a v).memRead a = (s.ioWrite (ioRegAt o) v).ioRead (ioRegAt o) := by
  rw [memWrite_of_io h, memRead_of_io h]

theorem memRead_memWrite_ioRegAt (s : State) (v : Byte) (n : Nat) (h : n < 0x80) :
    (s.memWrite (BitVec.ofNat 16 (0xFF00 + n)) v).memRead (BitVec.ofNat 16 (0xFF00 + n)) =
      (s.ioWrite (ioRegAt n) v).ioRead (ioRegAt n) :=
  memRead_memWrite_io (regionOf_io n h) v

/-- The APU's registers and wave RAM are plain storage (20_memory R86). -/
theorem memRead_memWrite_apu (hw : s.mem.wf = true) (h1 : 0xFF10 ≤ a.toNat) (h2 : a.toNat < 0xFF40) (v : Byte) :
    (s.memWrite a v).memRead a = v := by
  have hreg : ioRegAt (a.toNat - 0xFF00) = .apu (a.toNat - 0xFF00 - 0x10) := by
    unfold ioRegAt
    exact if_pos (by omega)
  obtain ⟨-, -, -, -, -, hapu⟩ := (Memory.wf_iff _).1 hw
  rw [memRead_memWrite_io (regionOf_ioWindow (by omega) (by omega)), hreg]
  exact Cells.read_write_same _ _ _ hapu

/-! Registers with bits of their own. -/

/-- P1 reads back the rows just selected, with the lines of those rows (20_memory R81). -/
theorem ioRead_ioWrite_p1 (s : State) (v : Byte) : (s.ioWrite .p1 v).ioRead .p1 =
    ({ s.joypad with p1Sel := BitVec.ofNat 2 (v.toNat / 16) } : Joypad).p1 := by
  refine (joyCheck_io _ .p1 (by decide)).trans ?_
  rw [← extract_p1Sel]
  rfl

theorem Joypad.p1_eq_ofNat (j : Joypad) : j.p1 = BitVec.ofNat 8 (0xC0 + 16 * j.p1Sel.toNat + j.low.toNat) :=
  p1_readBits _ _

theorem Ppu.stat_and_lowBits (p : Ppu) :
    p.stat &&& 0x07 = 0#5 ++ BitVec.ofBool p.coincidence ++ (if p.lcdOn then p.mode.number else 0) :=
  stat_lowBits _ _ _

/-- STAT reads back the selects just written; its low three bits are the PPU's (10_state R39). -/
theorem ioRead_ioWrite_stat (s : State) (v : Byte) :
    (s.ioWrite .stat v).ioRead .stat = 0x80 ||| (v &&& 0x78) ||| (s.ppu.stat &&& 0x07) := by
  refine (restat_io _ .stat (by decide)).trans ?_
  rw [Ppu.stat_and_lowBits, ← stat_readBits]
  exact stat_split _ _ _

/-! Writes that change nothing, or one field. -/

theorem ioRegAt_unmapped : ∀ n < 0x80, n = 0x03 ∨ (0x08 ≤ n ∧ n < 0x0F) ∨ (0x4C ≤ n ∧ n < 0x50) ∨ 0x51 ≤ n →
    ioRegAt n = .unmapped := by
  decide

/-- An unmapped address of the window reads 0xFF and ignores writes (20_memory R75). -/
theorem memRead_memWrite_unmapped (h : regionOf a = .io o) (hr : ioRegAt o = .unmapped) (v : Byte) :
    s.memRead a = 0xFF ∧ s.memWrite a v = s := by
  rw [memRead_of_io h, memWrite_of_io h, hr]
  exact ⟨rfl, rfl⟩

/-- A write to the boot register unmaps the overlay unless it is zero (10_state R43). -/
theorem ioWrite_boot_bootMapped (s : State) (v : Byte) :
    (s.ioWrite .boot v).bootMapped = (s.bootMapped && v == 0) := by
  show (if v = 0 then s.bootMapped else false) = _
  by_cases hv : v = 0
  · rw [if_pos hv, hv, beq_self_eq_true, Bool.and_true]
  · rw [if_neg hv, beq_eq_false_iff_ne.2 hv, Bool.and_false]

/-- Settles O44, register by register of the window. -/
theorem ioRegistersReadBack : Obligations.IoRegistersReadBack := by
  intro s v hw back
  have hback (n : Nat) (h : n < 0x80) := memRead_memWrite_ioRegAt s v n h
  have hwrite (n : Nat) (h : n < 0x80) := memWrite_io s n v h
  refine ⟨(List.forall_mem_map (l := byteOffsets) (f := fun n => BitVec.ofNat 16 (0xFF00 + n))).2 fun n hn => ?_,
    fun a ⟨h1, h2⟩ => memRead_memWrite_apu hw h1 h2 v, ?_, ?_, hback 0x04 (by decide),
    (hback 0x07 (by decide)).trans (tac_readBits v), (hback 0x0F (by decide)).trans (ifReg_readBits v),
    ?_, hwrite 0x44 (by decide), hback 0x50 (by decide), ?_,
    hwrite 0x04 (by decide), hwrite 0x05 (by decide), hwrite 0x06 (by decide), ?_, fun a ha => ?_⟩
  · obtain ⟨hlt, hreg⟩ := ioRegAt_byteOffsets n hn
    exact (hback n hlt).trans (ioRead_ioWrite_byteRegs hreg v)
  · refine (hback 0x00 (by decide)).trans ((ioRead_ioWrite_p1 s v).trans ((Joypad.p1_eq_ofNat _).trans ?_))
    rw [BitVec.toNat_ofNat]
  · refine (hback 0x02 (by decide)).trans ?_
    show 0x7E ||| (v &&& 0x81 &&& 0x81) = 0x7E ||| (v &&& 0x81)
    rw [BitVec.and_assoc, BitVec.and_self]
  · have hstat : s.memRead 0xFF41 = s.ppu.stat := memRead_io s 0x41 (by decide)
    rw [hstat]
    exact (hback 0x41 (by decide)).trans (ioRead_ioWrite_stat s v)
  · exact (congrArg State.bootMapped (hwrite 0x50 (by decide))).trans (ioWrite_boot_bootMapped s v)
  · rw [← extract_low]
    exact hwrite 0x07 (by decide)
  · have hwin : 0xFF00 ≤ a.toNat ∧ a.toNat < 0xFF80 := by
      rcases ha with rfl | ha
      · decide
      · omega
    refine memRead_memWrite_unmapped (regionOf_ioWindow hwin.1 hwin.2) (ioRegAt_unmapped _ (by omega) ?_) v
    rcases ha with rfl | ha
    · exact .inl rfl
    · omega

end Sys2Proof.Machine
end

section
/-! PROOFS. The OAM copy (20_memory R84): byte i of OAM becomes what the bus read at byte i of the page. -/

namespace Sys2Proof.Machine

variable {s : State} {a : Word} {o i j : Nat}

/-! The DMA register. -/

theorem ioRead_setDma_other (v : Byte) {r : IoReg} (h : r ≠ .dma) :
    ({ s with ppu := { s.ppu with dma := v } } : State).ioRead r = s.ioRead r := by
  cases r with
  | dma => exact absurd rfl h
  | _ => rfl

/-- The DMA register is seen at its own address alone. -/
theorem memRead_setDma (s : State) (v : Byte) (a : Word) :
    ({ s with ppu := { s.ppu with dma := v } } : State).memRead a = if a = 0xFF46 then v else s.memRead a := by
  split_ifs with ha
  · rw [ha]
    exact memRead_io _ 0x46 (by decide)
  · unfold State.memRead
    cases hr : regionOf a with
    | io p => exact ioRead_setDma_other v fun hp => ha (eq_ofNat_of_ioOff hr hp rfl)
    | _ => rfl

/-! Stores into OAM. -/

/-- A store into OAM is seen at its own address alone. -/
theorem memRead_setOam_of_ne (v : Byte) (h : regionOf a ≠ .oam i) : (s.setOam i v).memRead a = s.memRead a := by
  unfold State.memRead
  cases hr : regionOf a with
  | oam p => exact Cells.read_write_other _ _ fun e => h (e ▸ hr)
  | io p => cases ioRegAt p <;> rfl
  | _ => rfl

/-- Byte `j` of a page that lies in OAM is OAM's own byte `j`. -/
theorem index_of_page_in_oam {page : Byte} (hj : j < 160)
    (h : regionOf (BitVec.ofNat 16 (page.toNat * 256 + j)) = .oam i) : i = j := by
  obtain ⟨ha, hi⟩ := regionOf_oam_iff.1 h
  have := page.isLt
  rw [BitVec.toNat_ofNat, Nat.mod_eq_of_lt (by omega)] at ha
  omega

/-! The copy. -/

/-- The copy reads what it has not yet reached as it was, so also a page in OAM copies to itself (20_memory R84). -/
theorem oam_dmaCopy (s : State) (page : Byte) (i n : Nat) (hn : i + n ≤ 160)
    (hw : s.mem.oam.wfIn 0 160 = true) (j : Nat) (hj : j < 160) :
    (s.dmaCopy page i n).mem.oam.read j =
      if i ≤ j ∧ j < i + n then s.memRead (BitVec.ofNat 16 (page.toNat * 256 + j)) else s.mem.oam.read j := by
  induction n generalizing s i with
  | zero => rw [if_neg (by omega)]; rfl
  | succ n ih =>
    let x := s.memRead (BitVec.ofNat 16 (page.toNat * 256 + i))
    have hstep : s.dmaCopy page i (n + 1) = (s.setOam i x).dmaCopy page (i + 1) n := rfl
    have hsame : (s.setOam i x).mem.oam.read i = x := Cells.read_write_same _ _ _ hw
    have hother (h : j ≠ i) : (s.setOam i x).mem.oam.read j = s.mem.oam.read j := Cells.read_write_other _ _ h
    have hsource (h : j ≠ i) : (s.setOam i x).memRead (BitVec.ofNat 16 (page.toNat * 256 + j)) =
        s.memRead (BitVec.ofNat 16 (page.toNat * 256 + j)) :=
      memRead_setOam_of_ne x fun hr => h (index_of_page_in_oam hj hr).symm
    rw [hstep, ih (s.setOam i x) (i + 1) (by omega) (Cells.wfIn_write _ hw (by omega) (by omega))]
    rcases Nat.lt_trichotomy j i with h | rfl | h
    · rw [if_neg (by omega), if_neg (by omega), hother (by omega)]
    · rw [if_neg (by omega), if_pos (by omega), hsame]
    · rw [hsource (by omega), hother (by omega)]
      exact if_congr (by omega) rfl rfl

/-- A copy is not seen outside OAM. -/
theorem memRead_dmaCopy_of_ne (page : Byte) (i n : Nat) (h : ∀ o, regionOf a ≠ .oam o) :
    (s.dmaCopy page i n).memRead a = s.memRead a := by
  obtain ⟨oam, e⟩ := dmaCopy_eq page i n s
  rw [e]
  unfold State.memRead
  cases hr : regionOf a with
  | oam p => exact absurd hr (h p)
  | io p => cases ioRegAt p <;> rfl
  | _ => rfl

/-- Settles O45: the copy runs from the state whose DMA register holds the page. -/
theorem oamDmaCopiesPage : Obligations.OamDmaCopiesPage := by
  intro s v hw t before
  obtain ⟨-, -, -, hoam, -⟩ := (Memory.wf_iff _).1 hw
  let u : State := { s with ppu := { s.ppu with dma := v } }
  have ht : t = u.dmaCopy v 0 160 := memWrite_io s 0x46 v (by decide)
  refine ⟨fun i hi => ?_, fun a ha => ?_, State.memWrite_cycles s _ v⟩
  · have hr : regionOf (BitVec.ofNat 16 (0xFE00 + i)) = .oam i := by
      rw [regionOf_oam_iff, BitVec.toNat_ofNat]
      omega
    rw [memRead_of_oam hr, ht, oam_dmaCopy u v 0 160 (by omega) hoam i hi, if_pos (by omega)]
    exact memRead_setDma s v _
  · rw [ht, memRead_dmaCopy_of_ne v 0 160 fun o ho => by
      have := regionOf_oam_iff.1 ho
      omega]
    exact memRead_setDma s v a

end Sys2Proof.Machine
end

section
/-! PROOFS. The bank registers (20_memory R94 to R98): each controller's write as numbers, range by range. -/

namespace Sys2Proof.Machine

variable (a : Word) (v : Byte)

/-! What is kept of the byte written. -/

theorem ramEnable_eq : ramEnable v = (v.toNat % 16 == 10) := by
  revert v; decide

theorem bitOf_zero_eq : bitOf v 0 = (v.toNat % 2 == 1) := by
  revert v; decide

theorem zeroToOne_extract (w : Nat) {n : Nat} (hn : 2 ^ w = n) :
    zeroToOne (v.extractLsb' 0 w) = if v.toNat % n = 0 then 1 else BitVec.ofNat w v.toNat := by
  have hzero : BitVec.ofNat w v.toNat = 0 ↔ v.toNat % n = 0 := by
    rw [← BitVec.toNat_inj, BitVec.toNat_ofNat, hn]
    simp
  rw [extract_low]
  exact if_congr hzero rfl rfl

/-- MBC5's ROM bank with its low eight bits replaced (20_memory R98). -/
theorem mbc5_lowBits (rb : BitVec 9) :
    rb.extractLsb' 8 1 ++ v = BitVec.ofNat 9 (rb.toNat / 256 * 256 + v.toNat) := by
  apply BitVec.eq_of_toNat_eq
  rw [BitVec.toNat_append, ← Nat.shiftLeft_add_eq_or_of_lt v.isLt, Nat.shiftLeft_eq, BitVec.extractLsb'_toNat,
    Nat.shiftRight_eq_div_pow, BitVec.toNat_ofNat]
  have := rb.isLt
  have := v.isLt
  omega

/-- MBC5's ROM bank with its ninth bit replaced (20_memory R98). -/
theorem mbc5_highBit (rb : BitVec 9) :
    v.extractLsb' 0 1 ++ rb.extractLsb' 0 8 = BitVec.ofNat 9 (v.toNat % 2 * 256 + rb.toNat % 256) := by
  apply BitVec.eq_of_toNat_eq
  rw [BitVec.toNat_append, ← Nat.shiftLeft_add_eq_or_of_lt (BitVec.isLt _), Nat.shiftLeft_eq, BitVec.extractLsb'_toNat,
    BitVec.extractLsb'_toNat, Nat.shiftRight_zero, Nat.shiftRight_zero, BitVec.toNat_ofNat]
  omega

/-! The controllers. -/

theorem Mbc.write_mbc1 (en : Bool) (b1 : BitVec 5) (b2 : BitVec 2) (md : Bool) :
    (Mbc.mbc1 en b1 b2 md).write a v =
      if a.toNat < 0x2000 then .mbc1 (v.toNat % 16 == 10) b1 b2 md
      else if a.toNat < 0x4000 then .mbc1 en (if v.toNat % 32 = 0 then 1 else BitVec.ofNat 5 v.toNat) b2 md
      else if a.toNat < 0x6000 then .mbc1 en b1 (BitVec.ofNat 2 v.toNat) md
      else .mbc1 en b1 b2 (v.toNat % 2 == 1) := by
  rw [← ramEnable_eq, ← bitOf_zero_eq, ← zeroToOne_extract v 5 (n := 32) rfl]
  rfl

theorem Mbc.write_mbc2_eq (en : Bool) (rb : BitVec 4) :
    (Mbc.mbc2 en rb).write a v =
      if a.toNat < 0x4000 then
        if a.getLsbD 8 then .mbc2 en (if v.toNat % 16 = 0 then 1 else BitVec.ofNat 4 v.toNat)
        else .mbc2 (v.toNat % 16 == 10) rb
      else .mbc2 en rb := by
  rw [← ramEnable_eq, ← zeroToOne_extract v 4 (n := 16) rfl]
  rfl

theorem Mbc.write_mbc3 (en : Bool) (rb : BitVec 7) (ra : Byte) :
    (Mbc.mbc3 en rb ra).write a v =
      if a.toNat < 0x2000 then .mbc3 (v.toNat % 16 == 10) rb ra
      else if a.toNat < 0x4000 then .mbc3 en (if v.toNat % 128 = 0 then 1 else BitVec.ofNat 7 v.toNat) ra
      else if a.toNat < 0x6000 then .mbc3 en rb v
      else .mbc3 en rb ra := by
  rw [← ramEnable_eq, ← zeroToOne_extract v 7 (n := 128) rfl]
  rfl

theorem Mbc.write_mbc5 (en : Bool) (rb : BitVec 9) (ra : BitVec 4) :
    (Mbc.mbc5 en rb ra).write a v =
      if a.toNat < 0x2000 then .mbc5 (v.toNat % 16 == 10) rb ra
      else if a.toNat < 0x3000 then .mbc5 en (BitVec.ofNat 9 (rb.toNat / 256 * 256 + v.toNat)) ra
      else if a.toNat < 0x4000 then .mbc5 en (BitVec.ofNat 9 (v.toNat % 2 * 256 + rb.toNat % 256)) ra
      else if a.toNat < 0x6000 then .mbc5 en rb (BitVec.ofNat 4 v.toNat)
      else .mbc5 en rb ra := by
  rw [← ramEnable_eq, ← mbc5_lowBits, ← mbc5_highBit]
  rfl

/-- A write to the ROM range is a write to the controller's registers (20_memory R68). -/
theorem memWrite_rom {s : State} {k : Cart} (hk : s.mem.cart = some k) (ha : a.toNat < 0x8000) :
    s.memWrite a v = { s with mem := { s.mem with cart := some { k with mbc := k.mbc.write a v } } } := by
  simp only [State.memWrite, regionOf_rom ha, State.mapCart, hk]
  rfl

/-- A value by the four ranges that MBC1 and MBC3 tell apart. -/
theorem of_bankRanges {P : Mbc → Prop} {n : Nat} {x y z w : Mbc}
    (h : P (if n < 0x2000 then x else if n < 0x4000 then y else if n < 0x6000 then z else w)) :
    (n < 0x2000 → P x) ∧ (0x2000 ≤ n ∧ n < 0x4000 → P y) ∧ (0x4000 ≤ n ∧ n < 0x6000 → P z) ∧ (0x6000 ≤ n → P w) := by
  split_ifs at h
  · exact ⟨fun _ => h, by omega, by omega, by omega⟩
  · exact ⟨by omega, fun _ => h, by omega, by omega⟩
  · exact ⟨by omega, by omega, fun _ => h, by omega⟩
  · exact ⟨by omega, by omega, by omega, fun _ => h⟩

/-- Settles O46, controller by controller and range by range. -/
theorem bankRegisterWrites : Obligations.BankRegisterWrites := by
  intro s k a v hk ha n en' after
  have hafter : after (k.mbc.write a v) := by
    show (s.memWrite a v).mem.cart = _
    rw [memWrite_rom a v hk ha]
  refine ⟨fun en b1 b2 md hm => ?_, fun en rb ra hm => ?_, fun en rb hm => ?_, fun en rb ra hm => ?_, fun hm => ?_⟩
  · rw [hm, Mbc.write_mbc1] at hafter
    exact of_bankRanges hafter
  · rw [hm, Mbc.write_mbc3] at hafter
    rw [hm]
    exact of_bankRanges hafter
  · rw [hm, Mbc.write_mbc2_eq] at hafter
    rw [hm]
    refine ⟨fun h h8 => ?_, fun h h8 => ?_, fun h => ?_⟩
    · rwa [if_pos h, h8, if_neg Bool.false_ne_true] at hafter
    · rwa [if_pos h, if_pos h8] at hafter
    · rwa [if_neg (by omega)] at hafter
  · rw [hm, Mbc.write_mbc5] at hafter
    rw [hm]
    refine ⟨fun h => ?_, fun h => ?_, fun h => ?_, fun h => ?_, fun h => ?_⟩
    · rwa [if_pos h] at hafter
    · rwa [if_neg (by omega), if_pos h.2] at hafter
    · rwa [if_neg (by omega), if_neg (by omega), if_pos h.2] at hafter
    · rwa [if_neg (by omega), if_neg (by omega), if_neg (by omega), if_pos h.2] at hafter
    · rwa [if_neg (by omega), if_neg (by omega), if_neg (by omega), if_neg (by omega)] at hafter
  · have hw : k.mbc.write a v = k.mbc := by rw [hm]; rfl
    rw [memWrite_rom a v hk ha, hw, ← hk]

end Sys2Proof.Machine
end

section
/-! PROOFS. The cartridge's windows (20_memory R66, R67, R70, R94 to R98): boot overlay, ROM banks, external RAM. -/

namespace Sys2Proof.Machine

variable {s : State} {k : Cart} {a : Word}

/-- A mapped boot ROM lies over the image (20_memory R66). -/
theorem memRead_boot {boot : List Byte} {v : Byte} (hc : s.cfg.bootRom = some boot) (hm : s.bootMapped = true)
    (ha : a.toNat < 0x100) (hv : boot[a.toNat]? = some v) : s.memRead a = v := by
  have hbyte : s.bootByte a = some v := by
    unfold State.bootByte
    rw [hm, hc, Bool.true_and, if_pos (decide_eq_true ha), Option.map_some, List.getD_eq_getElem?_getD, hv]
    rfl
  rw [State.memRead, regionOf_rom (by omega)]
  simp only [State.readRomRange, hbyte]

/-! The ROM banks. -/

/-- The low window reads the controller's low bank, reduced by NROM (20_memory R94). -/
theorem Cart.readRom_low (h : a.toNat < 0x4000) :
    k.readRom a = k.rom.read (k.mbc.lowBank % k.nrom * 0x4000 + a.toNat % 0x4000) := by
  unfold Cart.readRom Cart.romIndex
  rw [if_pos h]

theorem Cart.readRom_high (h : 0x4000 ≤ a.toNat) :
    k.readRom a = k.rom.read (k.mbc.highBank % k.nrom * 0x4000 + a.toNat % 0x4000) := by
  unfold Cart.readRom Cart.romIndex
  rw [if_neg (by omega)]

/-! The external RAM. -/

/-- The controllers with whole bytes of external RAM: all but MBC2. -/
def Mbc.byteRam : Mbc → Bool
  | .mbc2 _ _ => false
  | _ => true

theorem Cart.ramReadValue_of_byteRam {m : Mbc} (h : m.byteRam = true) (c : Byte) : Cart.ramReadValue m c = c := by
  cases m with
  | mbc2 => cases h
  | _ => rfl

theorem Cart.ramStoreValue_of_byteRam {m : Mbc} (h : m.byteRam = true) (v : Byte) : Cart.ramStoreValue m v = v := by
  cases m with
  | mbc2 => cases h
  | _ => rfl

/-- MBC2's cells are nibbles, the upper four bits read 1 (20_memory R96). -/
theorem Cart.ramReadValue_of_mbc2 {m : Mbc} {en : Bool} {rb : BitVec 4} (h : m = .mbc2 en rb) (c : Byte) :
    Cart.ramReadValue m c = 0xF0 ||| c := by
  rw [h]
  rfl

theorem Cart.ramStoreValue_of_mbc2 {m : Mbc} {en : Bool} {rb : BitVec 4} (h : m = .mbc2 en rb) (v : Byte) :
    Cart.ramStoreValue m v = v &&& 0x0F := by
  rw [h]
  rfl

theorem Cart.ramIndex_of_absent (h : k.ramSize = 0) : k.ramIndex a = none := by
  unfold Cart.ramIndex
  exact if_pos h

/-- The cell is the one of the RAM bank, reduced by NRAM and RAM_SIZE (20_memory R92, R94). -/
theorem Cart.ramIndex_of_byteRam (h : 0 < k.ramSize) (hm : k.mbc.byteRam = true) :
    k.ramIndex a = k.mbc.ramBank.map fun b =>
      (b % max 1 (k.ramSize / 8192) * 0x2000 + a.toNat % 0x2000) % k.ramSize := by
  unfold Cart.ramIndex
  rw [if_neg (by omega)]
  split
  · rename_i e
    rw [e] at hm
    cases hm
  · rfl

theorem Cart.ramIndex_of_mbc2 (h : 0 < k.ramSize) {en : Bool} {rb : BitVec 4} (hm : k.mbc = .mbc2 en rb) :
    k.ramIndex a = if en then some (a.toNat % 512) else none := by
  unfold Cart.ramIndex
  rw [if_neg (by omega), hm]

/-! Without an image. -/

theorem mapCart_of_none (h : s.mem.cart = none) (f : Cart → Cart) : s.mapCart f = s := by
  unfold State.mapCart
  rw [h, Option.map_none, ← h]

/-- Both windows ignore writes (70_reset_and_hazards R431). -/
theorem memWrite_of_no_image (h : s.mem.cart = none) (hr : regionOf a = .rom ∨ regionOf a = .xram) (v : Byte) :
    s.memWrite a v = s := by
  rcases hr with hr | hr <;> rw [State.memWrite, hr] <;> exact mapCart_of_none h _

/-- Both windows read 0xFF (70_reset_and_hazards R431). -/
theorem memRead_of_no_image (h : s.mem.cart = none) (hr : regionOf a = .rom ∨ regionOf a = .xram)
    (hb : s.bootByte a = none) : s.memRead a = 0xFF := by
  rcases hr with hr | hr
  · simp only [State.memRead, hr, State.readRomRange, hb, h]
  · simp only [State.memRead, hr, State.readRamRange, h]

/-- Settles O47: the overlay, then controller by controller the two ROM windows and the external RAM, then the machine
without an image. -/
theorem bankMapping : Obligations.BankMapping := by
  intro s a bare low high window
  refine ⟨fun _ _ => memRead_boot, ?_, fun hk hr => ?_⟩
  · intro k hk rom stores off bank nibble
    have hlow (h : low) : s.memRead a = rom k.mbc.lowBank :=
      (memRead_rom s k a hk (by omega) h.2).trans (Cart.readRom_low h.1)
    have hhigh (h : high) : s.memRead a = rom k.mbc.highBank :=
      (memRead_rom s k a hk h.2 (.inr (.inr (by omega)))).trans (Cart.readRom_high h.1)
    have hoff (hw : window) (hi : k.ramIndex a = none) : off := xram_off s k a hk hw.1 hw.2 hi
    have hnone (hw : window) (hpos : 0 < k.ramSize) (hm : k.mbc.byteRam = true) (hb : k.mbc.ramBank = none) : off :=
      hoff hw (by rw [Cart.ramIndex_of_byteRam hpos hm, hb]; rfl)
    have hbank {b : Nat} (hw : window) (hpos : 0 < k.ramSize) (hm : k.mbc.byteRam = true)
        (hb : k.mbc.ramBank = some b) : bank b := by
      have h := xram_on s k a _ hk hw.1 hw.2 (by rw [Cart.ramIndex_of_byteRam hpos hm, hb, Option.map_some])
      simpa only [Cart.ramReadValue_of_byteRam hm, Cart.ramStoreValue_of_byteRam hm] using h
    have hnibble {rb : BitVec 4} (hw : window) (hpos : 0 < k.ramSize) (hm : k.mbc = .mbc2 true rb) : nibble := by
      have h := xram_on s k a _ hk hw.1 hw.2 (Cart.ramIndex_of_mbc2 hpos hm)
      simpa only [Cart.ramReadValue_of_mbc2 hm, Cart.ramStoreValue_of_mbc2 hm] using h
    refine ⟨fun hw h0 => hoff hw (Cart.ramIndex_of_absent h0), fun hm => ?_, fun en b1 b2 md hm => ?_,
      fun en rb hm => ?_, fun en rb ra hm => ?_, fun en rb ra hm => ?_⟩ <;> rw [hm] at hlow hhigh hnone hbank
    · exact ⟨hlow, hhigh, fun hw hpos => hbank hw hpos rfl rfl⟩
    · refine ⟨hlow, hhigh, fun hw hpos => ?_⟩
      cases en
      · exact hnone hw hpos rfl rfl
      · exact hbank hw hpos rfl rfl
    · refine ⟨hlow, hhigh, fun hw hpos => ?_⟩
      cases en
      · exact hoff hw (Cart.ramIndex_of_mbc2 hpos hm)
      · exact hnibble hw hpos hm
    · refine ⟨hlow, hhigh, fun hw hpos => ?_⟩
      split_ifs with he
      · exact hbank hw hpos rfl (by simp [Mbc.ramBank, he])
      · exact hnone hw hpos rfl (by simpa [Mbc.ramBank] using he)
    · refine ⟨hlow, hhigh, fun hw hpos => ?_⟩
      cases en
      · exact hnone hw hpos rfl rfl
      · exact hbank hw hpos rfl rfl
  · have hregion : regionOf a = .rom ∨ regionOf a = .xram := hr.imp regionOf_rom fun hw => regionOf_xram hw.1 hw.2
    exact ⟨fun hb => memRead_of_no_image hk hregion (bootByte_bare s a hb), memWrite_of_no_image hk hregion⟩

end Sys2Proof.Machine
end

section
/-! PROOFS. The joypad (20_memory R81, 60_exceptions R394): the lines of the selected rows, and the request on a falling
line. -/

namespace Sys2Proof.Machine

variable {s : State}

/-! Bits by number. -/

theorem getLsbD_ofBools (x y z w : Bool) : ∀ n < 4,
    (BitVec.ofBool w ++ BitVec.ofBool z ++ BitVec.ofBool y ++ BitVec.ofBool x).getLsbD n =
      [x, y, z, w].getD n false := by
  revert x y z w; decide

theorem Buttons.getLsbD_directions (b : Buttons) : ∀ n < 4,
    b.directions.getLsbD n = [b.right, b.left, b.up, b.down].getD n false :=
  getLsbD_ofBools _ _ _ _

theorem Buttons.getLsbD_actions (b : Buttons) : ∀ n < 4,
    b.actions.getLsbD n = [b.a, b.b, b.select, b.start].getD n false :=
  getLsbD_ofBools _ _ _ _

/-- A line reads 0 where a key of a selected row is pressed (20_memory R81). -/
theorem Joypad.getLsbD_low (j : Joypad) {n : Nat} (hn : n < 4) : j.low.getLsbD n =
    !((!j.p1Sel.getLsbD 0 && j.buttons.directions.getLsbD n) ||
      (!j.p1Sel.getLsbD 1 && j.buttons.actions.getLsbD n)) := by
  have hrow (c : Bool) (x : BitVec 4) : (if c then 0 else x).getLsbD n = (!c && x.getLsbD n) := by
    cases c <;> simp
  unfold Joypad.low
  rw [BitVec.getLsbD_not, decide_eq_true hn, Bool.true_and, BitVec.getLsbD_or, hrow, hrow]

/-- Some line was 1 and is 0 now. -/
theorem and_not_ne_zero_iff (prev low : BitVec 4) :
    prev &&& ~~~low ≠ 0 ↔ ∃ n < 4, prev.getLsbD n = true ∧ low.getLsbD n = false := by
  revert prev low; decide

/-- A request sets bit 4 of IF and keeps the other four (60_exceptions R333). -/
theorem getLsbD_or_joypad (x : BitVec 5) : ∀ n < 5, (x ||| 0b10000).getLsbD n = (x.getLsbD n || n == 4) := by
  revert x; decide

/-! The check. -/

/-- What the check leaves (60_exceptions R394): the lines are held, IF[4] is set exactly on a falling line, IF keeps
its other bits, nothing else changes. -/
theorem joypadCheck_spec (s : State) (j : Joypad) (h : j.p1LowPrev = s.joypad.p1LowPrev) :
    let t := State.joypadCheck { s with joypad := j }
    t = { s with joypad := { j with p1LowPrev := j.low }, ifReg := t.ifReg } ∧
      (∀ n < 4, t.ifReg.getLsbD n = s.ifReg.getLsbD n) ∧
      (t.ifReg.getLsbD 4 = true ↔ s.ifReg.getLsbD 4 = true ∨
        ∃ n < 4, s.joypad.p1LowPrev.getLsbD n = true ∧ j.low.getLsbD n = false) := by
  intro t
  have ht : t = { s with
      joypad := { j with p1LowPrev := j.low }
      ifReg := if s.joypad.p1LowPrev &&& ~~~j.low = 0 then s.ifReg else s.ifReg ||| 0b10000 } := by
    rw [← h]
    exact joypadCheck_eq { s with joypad := j }
  have hif : t.ifReg = if s.joypad.p1LowPrev &&& ~~~j.low = 0 then s.ifReg else s.ifReg ||| 0b10000 :=
    congrArg State.ifReg ht
  refine ⟨hif ▸ ht, ?_⟩
  rw [← and_not_ne_zero_iff, hif]
  split_ifs with hfall
  · simp [hfall]
  · refine ⟨fun n hn => ?_, iff_of_true ?_ (.inr hfall)⟩
    · rw [getLsbD_or_joypad _ n (by omega), beq_eq_false_iff_ne.2 (by omega), Bool.or_false]
    · rw [getLsbD_or_joypad _ 4 (by decide), beq_self_eq_true, Bool.or_true]

/-- Settles O48: a write to P1 and each button are the check on a changed joypad. -/
theorem joypadLinesAndRequest : Obligations.JoypadLinesAndRequest := by
  intro s b checked pressed
  have hbutton (k : Button) (p : Bool) : pressed (b.set k p) (s.setButtonState k p) := joypadCheck_spec s _ rfl
  refine ⟨fun n hn => ?_, ?_, fun v => ?_, fun p => ⟨hbutton .right p, hbutton .left p, hbutton .up p, hbutton .down p,
    hbutton .a p, hbutton .b p, hbutton .select p, hbutton .start p⟩⟩
  · rw [Joypad.getLsbD_low _ hn, Buttons.getLsbD_directions _ n hn, Buttons.getLsbD_actions _ n hn]
  · exact (memRead_io s 0x00 (by decide)).trans s.joypad.p1_eq_ofNat
  · have hwrite : s.memWrite 0xFF00 v = s.writeP1 v := memWrite_io s 0x00 v (by decide)
    rw [hwrite, ← extract_p1Sel]
    exact joypadCheck_spec s _ rfl

end Sys2Proof.Machine
end

section
/-! PROOFS. The encoding: the cells of the opcode maps against the encoder, in both directions (30_encoding R120 to
R135). -/

namespace Sys2Proof

/-! The maps' cells. -/

/-- The first bytes that begin no instruction (30_encoding R135). -/
def illegalOpcodes : List Byte := [0xD3, 0xDB, 0xDD, 0xE3, 0xE4, 0xEB, 0xEC, 0xED, 0xF4, 0xFC, 0xFD]

/-- What a cell of the unprefixed map says of the encoder: with this first byte its instructions are encoded in the
cell's format (30_encoding R120, R124); the cells of 0xCB and of the illegal bytes
stand at those bytes alone. -/
def OpForm.Encodes (op : Byte) : OpForm → Prop
  | .op i => encode i = [op]
  | .opN mk => ∀ n, encode (mk n) = [op, n]
  | .opE mk => ∀ e, encode (mk e) = [op, e]
  | .opNN mk => ∀ nn, encode (mk nn) = [op, loByte nn, hiByte nn]
  | .prefixCB => op = 0xCB
  | .illegal => illegalOpcodes.contains op = true

/-- Each of the 256 cells (30_encoding R132). -/
theorem opForm_encodes (op : Byte) : (opForm op).Encodes op := by
  fin_cases op <;> (repeat intro) <;> rfl

/-- Each of the 256 prefixed words (30_encoding R133). -/
theorem encode_prefixedInstr : ∀ op2 : Byte, encode (prefixedInstr op2) = [0xCB, op2] := by
  decide

/-! From bytes to the instruction and back to the bytes. -/

/-- Every format has 1 to 3 bytes (30_encoding R120). -/
theorem OpForm.length_bounds (f : OpForm) : 1 ≤ f.length ∧ f.length ≤ 3 := by
  cases f <;> simp [OpForm.length]

/-- What three bytes decode to is encoded by as many of them as the first byte says. -/
theorem encode_of_decode3 {b0 b1 b2 : Byte} {i : Instr} (h : decode3 b0 b1 b2 = some i) :
    encode i = [b0, b1, b2].take (opForm b0).length := by
  have hcell := opForm_encodes b0
  unfold decode3 at h
  cases hf : opForm b0 with
  | op j => rw [hf] at h hcell; cases h; exact hcell
  | opN mk => rw [hf] at h hcell; cases h; exact hcell b1
  | opE mk => rw [hf] at h hcell; cases h; exact hcell b1
  | opNN mk =>
    rw [hf] at h hcell; cases h
    simpa [OpForm.length] using hcell (join b2 b1)
  | prefixCB =>
    rw [hf] at h hcell; cases h
    rw [show b0 = 0xCB from hcell]
    exact encode_prefixedInstr b1
  | illegal => rw [hf] at h; cases h

theorem length_encode_of_decode3 {b0 b1 b2 : Byte} {i : Instr} (h : decode3 b0 b1 b2 = some i) :
    (encode i).length = (opForm b0).length := by
  rw [encode_of_decode3 h, List.length_take]
  exact Nat.min_eq_left (opForm b0).length_bounds.2

/-- A string long enough for the format agrees with the three bytes the decoder reads of it. -/
theorem take_getD_eq_take {n : Nat} (b0 : Byte) (t : List Byte) (h3 : n ≤ 3) (hn : n ≤ t.length + 1) :
    [b0, t.getD 0 0, t.getD 1 0].take n = (b0 :: t).take n := by
  rcases t with _ | ⟨b1, _ | ⟨b2, t⟩⟩
  all_goals
    dsimp only [List.length] at hn
    interval_cases n <;> rfl

theorem decode_cons_eq_ok_iff {b0 : Byte} {t rest : List Byte} {i : Instr} :
    decode (b0 :: t) = .ok (i, rest) ↔ decode3 b0 (t.getD 0 0) (t.getD 1 0) = some i ∧
      (opForm b0).length ≤ t.length + 1 ∧ rest = (b0 :: t).drop (opForm b0).length := by
  unfold decode
  dsimp only
  cases decode3 b0 (t.getD 0 0) (t.getD 1 0) with
  | none => simp
  | some j =>
    by_cases hlen : (opForm b0).length ≤ t.length + 1
    · simp [hlen, eq_comm]
    · simp [hlen]

/-- Settles O8: the bytes the decoder takes are the encoding. -/
theorem decodedBytesAreTheEncoding : Obligations.DecodedBytesAreTheEncoding := by
  intro bytes rest i h
  cases bytes with
  | nil => cases h
  | cons b0 t =>
    obtain ⟨hd, hlen, rfl⟩ := decode_cons_eq_ok_iff.1 h
    have hbounds := (opForm b0).length_bounds
    refine ⟨?_, by rwa [length_encode_of_decode3 hd]⟩
    rw [encode_of_decode3 hd, take_getD_eq_take b0 t hbounds.2 hlen, List.take_append_drop]

/-! From the instruction to its bytes and back. -/

/-- The bytes `bs` hold `i` in one of the formats of 30_encoding R120, at the cell of R132 or R133 their opcode
byte selects. -/
inductive InFormat : Instr → List Byte → Prop
  | op {b0 : Byte} {i : Instr} (h : opForm b0 = .op i) : InFormat i [b0]
  | opN {b0 : Byte} {mk : Byte → Instr} (h : opForm b0 = .opN mk) (n : Byte) : InFormat (mk n) [b0, n]
  | opE {b0 : Byte} {mk : Byte → Instr} (h : opForm b0 = .opE mk) (e : Byte) : InFormat (mk e) [b0, e]
  | opNN {b0 : Byte} {mk : Word → Instr} (h : opForm b0 = .opNN mk) (nn : Word) :
      InFormat (mk nn) [b0, loByte nn, hiByte nn]
  | prefixed {b1 : Byte} {i : Instr} (h : prefixedInstr b1 = i) : InFormat i [0xCB, b1]

/-- Every instruction stands in a cell of the maps: the ones with operands by their format, every other one at the
opcode byte, or at the byte after 0xCB. -/
theorem inFormat_encode (i : Instr) : InFormat i (encode i) := by
  cases i
  case ldBCNN nn | ldMemNNSP nn | ldDENN nn | ldHLNN nn | ldSPNN nn | jpNZNN nn | jpNN nn | callNZNN nn | jpZNN nn
      | callZNN nn | callNN nn | jpNCNN nn | callNCNN nn | jpCNN nn | callCNN nn | ldMemNNA nn | ldAMemNN nn =>
    exact .opNN rfl nn
  case ldBN n | ldCN n | stop n | ldDN n | ldEN n | ldHN n | ldLN n | ldMemHLN n | ldAN n | addAN n | adcAN n | subN n
      | sbcAN n | ldhMemNA n | andN n | xorN n | ldhAMemN n | orN n | cpN n =>
    exact .opN rfl n
  case jrE8 e | jrNZE8 e | jrZE8 e | jrNCE8 e | jrCE8 e | addSPE8 e | ldHLSPE e => exact .opE rfl e
  all_goals constructor; rfl

/-- The decoder takes a format's bytes and leaves what follows. -/
theorem InFormat.decode_append {i : Instr} {bs : List Byte} (h : InFormat i bs) (rest : List Byte) :
    decode (bs ++ rest) = .ok (i, rest) := by
  cases h with
  | op h => exact decode_cons_eq_ok_iff.2 (by simp [decode3, h, OpForm.length])
  | opN h n => exact decode_cons_eq_ok_iff.2 (by simp [decode3, h, OpForm.length])
  | opE h e => exact decode_cons_eq_ok_iff.2 (by simp [decode3, h, OpForm.length])
  | opNN h nn => exact decode_cons_eq_ok_iff.2 (by simp [decode3, h, OpForm.length])
  | prefixed h =>
    have hform : opForm 0xCB#8 = .prefixCB := rfl
    exact decode_cons_eq_ok_iff.2 (by simp [decode3, hform, h, OpForm.length])

/-- Settles O7: every instruction's encoding is in a format, and the decoder reads every format. -/
theorem encodeDecodeRoundTrip : Obligations.EncodeDecodeRoundTrip :=
  fun i rest _ => (inFormat_encode i).decode_append rest

/-! The illegal bytes. -/

theorem decode3_eq_none_iff {b0 b1 b2 : Byte} : decode3 b0 b1 b2 = none ↔ opForm b0 = .illegal := by
  unfold decode3
  cases opForm b0 <;> simp

theorem opForm_eq_illegal_iff {op : Byte} : opForm op = .illegal ↔ op ∈ illegalOpcodes := by
  constructor
  · intro h
    have hcell := opForm_encodes op
    rw [h] at hcell
    exact List.contains_iff_mem.1 hcell
  · unfold illegalOpcodes
    intro h
    fin_cases h <;> rfl

/-- Settles O9: the decoder answers none at the illegal cells alone. -/
theorem illegalBytesExactly : Obligations.IllegalBytesExactly := fun _ _ _ =>
  decode3_eq_none_iff.trans opForm_eq_illegal_iff

/-- Settles O6, each word by the round trip of its instruction; the two refusals by evaluation. -/
theorem knownWordsDecode : Obligations.KnownWordsDecode := by
  have hround {i : Instr} {bs : List Byte} (h : encode i = bs) : decode bs = .ok (i, []) := by
    simpa [h] using (inFormat_encode i).decode_append []
  exact ⟨hround rfl, hround rfl, hround rfl, hround rfl, hround rfl, hround rfl, hround rfl, hround rfl, hround rfl,
    hround rfl, hround rfl, rfl, rfl⟩

end Sys2Proof
end

section
/-! PROOFS. The step of a running CPU with no dispatch due (60_exceptions R400). -/

namespace Sys2Proof.Machine

theorem mapNext_mapNext (f g : State → State) (r : Result) :
    mapNext f (mapNext g r) = mapNext (fun t => f (g t)) r := by
  cases r <;> rfl

/-- Without IME or without a pending source no dispatch is due (60_exceptions R332). -/
theorem runStep_of_no_dispatch {s : State} (h : s.ime = false ∨ s.pendingMask = 0) : s.runStep = s.runInstr := by
  unfold State.runStep
  rcases h with hime | hmask
  · rw [hime]
  · have hpending : s.pending = none := by rw [State.pending, hmask]; rfl
    rw [hpending]
    cases s.ime <;> rfl

/-- The step of an instruction: it runs past its bytes, ends, and the peripherals advance (60_exceptions R400, R401,
R403). -/
theorem step_of_fetchInstr {s : State} {i : Instr} (hrun : s.run = .running)
    (hdispatch : s.ime = false ∨ s.pendingMask = 0) (hfetch : s.fetchInstr = some i) :
    step s = mapNext (fun t => t.endOfInstruction.advance) (exec i (s.afterFetch (encode i).length)) := by
  have hcpu : s.cpuPhase = s.runInstr := by
    unfold State.cpuPhase
    rw [hrun]
    exact runStep_of_no_dispatch hdispatch
  rw [step, hcpu, State.runInstr, hfetch, length_encode_of_decode3 hfetch]
  exact mapNext_mapNext _ _ _

/-- Settles O11: with HALT_BUG the operand bytes start at PC itself, and the fetch clears the flag (30_encoding
R121). -/
theorem haltBugFetchesTwice : Obligations.HaltBugFetchesTwice := by
  intro s i hrun hbug hdispatch hdecode
  have hoperand : s.operandAddr = s.regs.pc := if_pos hbug
  have hfetch : s.fetchInstr = some i := by rwa [State.fetchInstr, hoperand]
  rw [step_of_fetchInstr hrun hdispatch hfetch, State.afterFetch, hoperand]

end Sys2Proof.Machine
end

section
/-! PROOFS. What an instruction's completion gives: the register file's change, or the bus writes and what they leave
readable (20_memory R78). -/

namespace Sys2Proof.Machine

variable (s : State) {i : Instr} {n : Nat}

/-- A list of bus writes leaves the reads of every address that none of them touches (20_memory R78). -/
theorem memRead_storeAll_of_untouched (ws : List (Word × Byte)) {a : Word} (h : untouched s ws a = true) :
    (storeAll s ws).memRead a = s.memRead a := by
  induction ws generalizing s with
  | nil => rfl
  | cons p rest ih =>
    obtain ⟨w, v⟩ := p
    simp only [untouched, Bool.and_eq_true, Bool.not_eq_true'] at h
    obtain ⟨hw, hrest⟩ := h
    exact (ih (s.memWrite w v) hrest).trans (memRead_memWrite_of_not_touches v hw)

/-- A completion after bus writes, a register change and the report is a `Stores` completion. -/
theorem stores_of {r : Regs} {ws : List (Word × Byte)}
    (h : exec i s = .next { storeAll s ws with regs := r, cycles := n }) : Stores i s n r ws := by
  obtain ⟨-, hime, hei, hrun, hhalt, hcfg, -⟩ := keepsCpu_storeAll s ws
  exact ⟨_, h, rfl, ⟨hime, hei, hrun, hhalt, hcfg⟩, fun a ha => memRead_storeAll_of_untouched s ws ha⟩

/-- A store to a memory operand is one bus write, at the effective address (40_load R150). -/
theorem stores_of_storeTo {m : MemOperand} {v : Byte} (h : exec i s = finish n (s.storeTo m v)) :
    Stores i s n s.regs [(s.ea m, v)] :=
  stores_of s (h.trans (finish_storeAll s n [(s.ea m, v)]))

/-- With HL moved afterwards the store goes to the address before (40_load R167, R169). -/
theorem stores_of_storeTo_bumpHl {m : MemOperand} {v : Byte} {d : Word}
    (h : exec i s = finish n ((s.storeTo m v).bumpHl d)) :
    Stores i s n (s.regs.setPair .hl (s.ea .hl + d)) [(s.ea m, v)] := by
  have hregs : ((s.storeTo m v).bumpHl d).regs = s.regs.setPair .hl (s.ea .hl + d) := by
    unfold State.bumpHl State.storeTo State.pair
    rw [State.setPair_regs, State.memWrite_regs]
    rfl
  exact stores_of s (h.trans (by rw [← hregs]; rfl))

/-- PUSH stores the two bytes of the pair, the high byte first, and moves SP (10_state R21, 40_load R172). -/
theorem stores_of_push {p : Pair} {hi lo : Byte} (h : exec i s = finish n (s.push p)) (hp : s.pair p = join hi lo) :
    Stores i s n { s.regs with sp := s.regs.sp - 2 } [(s.regs.sp - 1, hi), (s.regs.sp - 2, lo)] := by
  refine stores_of s (h.trans ?_)
  rw [State.push, push16_eq, hp, hiByte_join, loByte_join]
  rfl

/-- POP loads the pair and moves SP (40_load R173, R174). -/
theorem regsOnly_of_pop {p : Pair} (h : exec i s = finish n (s.pop p)) :
    RegsOnly i s n (Regs.setPair { s.regs with sp := s.regs.sp + 2 } p
      (join (s.memRead (s.regs.sp + 1)) (s.memRead s.regs.sp))) :=
  regsOnly_of s h

end Sys2Proof.Machine
end

section
/-! PROOFS. Loads, stores and stack transfers (40_load): each row's encoding and the operation it runs, then the
completion that operation gives. -/

namespace Sys2Proof.Machine

variable (s : State)

/-! The rows (40_load R151 to R165). -/

/-- Each of the 49 rows writes its source register to its destination (40_load R151). -/
theorem ldRegReg_row {row : Instr × Reg8 × Reg8} (h : row ∈ ldRegRegRows) :
    encode row.1 = [opByte 1 (regCode row.2.1) (regCode row.2.2)] ∧
      exec row.1 s = finish 4 (s.setReg row.2.1 (s.reg row.2.2)) := by
  unfold ldRegRegRows at h
  fin_cases h <;> exact ⟨rfl, rfl⟩

/-- Each of the 7 rows writes the immediate byte (40_load R152). -/
theorem ldRegImm_row {n : Byte} {row : Instr × Reg8} (h : row ∈ ldRegImmRows n) :
    encode row.1 = [opByte 0 (regCode row.2) 6, n] ∧ exec row.1 s = finish 8 (s.setReg row.2 n) := by
  unfold ldRegImmRows at h
  fin_cases h <;> dsimp only <;> exact ⟨rfl, rfl⟩

/-- Each of the 7 rows writes the byte at HL (40_load R153). -/
theorem ldRegMem_row {row : Instr × Reg8} (h : row ∈ ldRegMemRows) :
    encode row.1 = [opByte 1 (regCode row.2) 6] ∧
      exec row.1 s = finish 8 (s.setReg row.2 (s.loadFrom .hl)) := by
  unfold ldRegMemRows at h
  fin_cases h <;> exact ⟨rfl, rfl⟩

/-- Each row writes to A the byte of its operand (40_load R156, R157, R160, R162, R164). -/
theorem ldAMem_row {n : Byte} {nn : Word} {row : Instr × MemOperand × Nat × List Byte}
    (h : row ∈ ldAMemRows n nn) :
    encode row.1 = row.2.2.2 ∧ exec row.1 s = finish row.2.2.1 (s.setReg .a (s.loadFrom row.2.1)) := by
  unfold ldAMemRows at h
  fin_cases h <;> exact ⟨rfl, rfl⟩

/-- Each of the 7 rows stores its register at HL (40_load R154). -/
theorem ldMemReg_row {row : Instr × Reg8} (h : row ∈ ldMemRegRows) :
    encode row.1 = [opByte 1 6 (regCode row.2)] ∧
      exec row.1 s = finish 8 (s.storeTo .hl (s.reg row.2)) := by
  unfold ldMemRegRows at h
  fin_cases h <;> exact ⟨rfl, rfl⟩

/-- Each row stores A to its operand (40_load R158, R159, R161, R163, R165). -/
theorem ldMemA_row {n : Byte} {nn : Word} {row : Instr × MemOperand × Nat × List Byte}
    (h : row ∈ ldMemARows n nn) :
    encode row.1 = row.2.2.2 ∧ exec row.1 s = finish row.2.2.1 (s.storeTo row.2.1 (s.reg .a)) := by
  unfold ldMemARows at h
  fin_cases h <;> exact ⟨rfl, rfl⟩

/-! The statements. -/

/-- Settles O19: each row is one store to its operand. -/
theorem storeToMemory : Obligations.StoreToMemory := by
  refine ⟨fun row h s => ?_, fun n s => ⟨rfl, stores_of_storeTo s rfl⟩, fun n nn row h s => ?_⟩
  · obtain ⟨hencode, hexec⟩ := ldMemReg_row s h
    exact ⟨hencode, stores_of_storeTo s hexec⟩
  · obtain ⟨hencode, hexec⟩ := ldMemA_row s h
    exact ⟨hencode, stores_of_storeTo s hexec⟩

/-- Settles O20: the access takes HL before it moves, and HL - 1 is HL + (-1) modulo 2^16. -/
theorem postModifiedTransfers : Obligations.PostModifiedTransfers := by
  intro s up down hup hdown after
  rw [sub_eq_add_neg] at hdown
  subst hup hdown
  exact ⟨rfl, rfl, rfl, rfl, regsOnly_of s rfl, regsOnly_of s rfl, stores_of_storeTo_bumpHl s rfl,
    stores_of_storeTo_bumpHl s rfl⟩

/-- Settles O21: five loads of a pair, and the two writes of `MemWrite16` (20_memory R63). -/
theorem sixteenBitLoads : Obligations.SixteenBitLoads := by
  intro s nn hi lo
  have hwrite : exec (.ldMemNNSP nn) s =
      finish 20 (storeAll s [(nn, loByte s.regs.sp), (nn + 1, hiByte s.regs.sp)]) := rfl
  exact ⟨rfl, rfl, rfl, rfl, rfl, rfl, regsOnly_of s rfl, regsOnly_of s rfl, regsOnly_of s rfl, regsOnly_of s rfl,
    regsOnly_of s rfl, stores_of s (hwrite.trans (finish_storeAll s 20 _))⟩

/-- Settles O22: each pair is its two registers joined. -/
theorem pushStoresPair : Obligations.PushStoresPair := by
  intro s push r
  exact ⟨rfl, rfl, rfl, rfl, stores_of_push s rfl rfl, stores_of_push s rfl rfl,
    stores_of_push s rfl rfl, stores_of_push s rfl rfl⟩

/-- Settles O17: each row is one register write. -/
theorem loadRegister : Obligations.LoadRegister := by
  refine ⟨fun row h s => ?_, fun n row h s => ?_⟩
  · obtain ⟨hencode, hexec⟩ := ldRegReg_row s h
    exact ⟨hencode, regsOnly_of s hexec⟩
  · obtain ⟨hencode, hexec⟩ := ldRegImm_row s h
    exact ⟨hencode, regsOnly_of s hexec⟩

/-- Settles O18: each row writes to a register what its operand reads. -/
theorem loadFromMemory : Obligations.LoadFromMemory := by
  refine ⟨fun s nn n => ?_, fun row h s => ?_, fun n nn row h s => ?_⟩
  · exact ⟨join_toNat _ _, join_toNat _ _, join_toNat _ _, rfl, highPage_toNat n, highPage_toNat _⟩
  · obtain ⟨hencode, hexec⟩ := ldRegMem_row s h
    exact ⟨hencode, regsOnly_of s hexec⟩
  · obtain ⟨hencode, hexec⟩ := ldAMem_row s h
    exact ⟨hencode, regsOnly_of s hexec⟩

/-- Settles O23: POP splits the word it reads; for AF the low byte is masked to its four flags (10_state R25). -/
theorem popLoadsPair : Obligations.PopLoadsPair := by
  intro s lo hi r
  have hbc : RegsOnly .popBC s 12 (r.setPair .bc (join hi lo)) := regsOnly_of_pop s rfl
  have hde : RegsOnly .popDE s 12 (r.setPair .de (join hi lo)) := regsOnly_of_pop s rfl
  have hhl : RegsOnly .popHL s 12 (r.setPair .hl (join hi lo)) := regsOnly_of_pop s rfl
  have haf : RegsOnly .popAF s 12 (r.setPair .af (join hi lo)) := regsOnly_of_pop s rfl
  simp only [Regs.setPair, hiByte_join, loByte_join, mask_eq_flagByte] at hbc hde hhl haf
  exact ⟨rfl, rfl, rfl, rfl, hbc, hde, hhl, haf⟩

end Sys2Proof.Machine
end

section
/-! PROOFS. 8-bit arithmetic and logic (41_alu8): what each shared operation leaves in the register file, as numbers,
then the rows that run it. -/

namespace Sys2Proof.Machine

variable (s : State) {i : Instr} {n : Nat}

/-- A change of the register file and then of the flags. -/
theorem regsOnly_of_setFlags {r : Regs} {z ng hf c : Bool}
    (h : exec i s = finish n (State.setFlags { s with regs := r } z ng hf c)) :
    RegsOnly i s n { r with f := flagByte z ng hf c } :=
  regsOnly_of s (h.trans (congrArg (finish n) (setFlags_eq _ z ng hf c)))

/-! The operations on A and an operand (41_alu8 R191 to R215). -/

/-- An ALU operation writes A, but for CP, and the flags. -/
theorem regsOnly_of_alu {op : AluOp} {v : Byte} (h : exec i s = finish n (s.alu op v)) :
    let r := aluResult op s.regs.a v s.fC
    RegsOnly i s n { s.regs with
      a := if op = .cp then s.regs.a else r.value, f := flagByte r.z r.n r.h r.c } := by
  refine regsOnly_of s (h.trans ?_)
  unfold State.alu
  simp only [setFlags_eq]
  split <;> rfl

/-- Each row of ADD and ADC runs its operation on its source. -/
theorem add_row {n : Byte} {row : Instr × AluOp × Src × Nat × List Byte} (h : row ∈ addRows n) :
    (row.2.1 = .add ∨ row.2.1 = .adc) ∧ encode row.1 = row.2.2.2.2 ∧
      exec row.1 s = finish row.2.2.2.1 (s.alu row.2.1 (row.2.2.1.value s)) := by
  unfold addRows at h
  fin_cases h <;> exact ⟨by simp, rfl, rfl⟩

/-- Each row of SUB, SBC and CP runs its operation on its source. -/
theorem sub_row {n : Byte} {row : Instr × AluOp × Src × Nat × List Byte} (h : row ∈ subRows n) :
    (row.2.1 = .sub ∨ row.2.1 = .sbc ∨ row.2.1 = .cp) ∧ encode row.1 = row.2.2.2.2 ∧
      exec row.1 s = finish row.2.2.2.1 (s.alu row.2.1 (row.2.2.1.value s)) := by
  unfold subRows at h
  fin_cases h <;> exact ⟨by simp, rfl, rfl⟩

/-- Each row of AND, XOR and OR runs its operation on its source. -/
theorem logic_row {n : Byte} {row : Instr × AluOp × Src × Nat × List Byte} (h : row ∈ logicRows n) :
    (row.2.1 = .and ∨ row.2.1 = .xor ∨ row.2.1 = .or) ∧ encode row.1 = row.2.2.2.2 ∧
      exec row.1 s = finish row.2.2.2.1 (s.alu row.2.1 (row.2.2.1.value s)) := by
  unfold logicRows at h
  fin_cases h <;> exact ⟨by simp, rfl, rfl⟩

/-! INC and DEC (41_alu8 R216 to R219). -/

/-- A result written back to a register: the register, and the flags. -/
theorem regsOnly_of_writeBack {x : Reg8} {r : AluResult} (h : exec i s = finish n (s.writeBack (.reg x) r)) :
    RegsOnly i s n { s.regs.set x r.value with f := flagByte r.z r.n r.h r.c } :=
  regsOnly_of_setFlags s h

/-- A result written back to (HL): one bus write, and the flags. -/
theorem stores_of_writeBack {r : AluResult} (h : exec i s = finish n (s.writeBack .memHL r)) :
    Stores i s n { s.regs with f := flagByte r.z r.n r.h r.c } [(s.ea .hl, r.value)] := by
  refine stores_of s (h.trans ?_)
  unfold State.writeBack State.writeLoc State.storeTo
  rw [setFlags_eq, State.memWrite_regs]
  rfl

/-- The flags of INC, with H as a number. -/
theorem inc8_eq (v : Byte) (carry : Bool) : inc8 v carry =
    { value := v + 1, z := v + 1 == 0, n := false, h := v.toNat % 16 == 15, c := carry } := by
  unfold inc8
  rw [inc8_half]

/-- The flags of DEC, with H as a number. -/
theorem dec8_eq (v : Byte) (carry : Bool) : dec8 v carry =
    { value := v - 1, z := v - 1 == 0, n := true, h := v.toNat % 16 == 0, c := carry } := by
  unfold dec8
  rw [dec8_half]

/-- Each of the 7 rows increments its register. -/
theorem incReg_row {row : Instr × Reg8} (h : row ∈ incRegRows) :
    encode row.1 = [opByte 0 (regCode row.2) 4] ∧
      exec row.1 s = finish 4 (s.writeBack (.reg row.2) (inc8 (s.regs.get row.2) s.fC)) := by
  unfold incRegRows at h
  fin_cases h <;> exact ⟨rfl, rfl⟩

/-- Each of the 7 rows decrements its register. -/
theorem decReg_row {row : Instr × Reg8} (h : row ∈ decRegRows) :
    encode row.1 = [opByte 0 (regCode row.2) 5] ∧
      exec row.1 s = finish 4 (s.writeBack (.reg row.2) (dec8 (s.regs.get row.2) s.fC)) := by
  unfold decRegRows at h
  fin_cases h <;> exact ⟨rfl, rfl⟩

/-! DAA (41_alu8 R220). -/

/-- A byte and its zero test, from its number. -/
theorem eq_ofNat_and_beq_zero_of_toNat {v : Byte} {r : Nat} (h : v.toNat = r) :
    v = BitVec.ofNat 8 r ∧ (v == 0) = (r == 0) := by
  subst h
  refine ⟨by rw [BitVec.ofNat_toNat, BitVec.setWidth_eq], ?_⟩
  rw [Bool.eq_iff_iff, beq_iff_eq, beq_iff_eq, ← BitVec.toNat_inj]
  rfl

/-- The result of DAA: the adjustments come off after a subtraction and are added otherwise. -/
theorem daa8_toNat (a : Byte) (n h c : Bool) : (daa8 a n h c).value.toNat =
    if n then (a.toNat + 512 - (if c then 0x60 else 0) - (if h then 0x06 else 0)) % 256
    else (a.toNat + (if c || decide (0x99 < a.toNat) then 0x60 else 0)
      + (if h || decide (9 < a.toNat % 16) then 0x06 else 0)) % 256 := by
  unfold daa8
  cases n
  · rw [if_neg Bool.false_ne_true, if_neg Bool.false_ne_true]
    dsimp only
    split_ifs <;> bv_omega
  · rw [if_pos rfl, if_pos rfl]
    dsimp only
    split_ifs <;> bv_omega

/-- The flags of DAA: N is kept, H cleared, and C only ever set, after an addition. -/
theorem daa8_flags (a : Byte) (n h c : Bool) :
    let r := daa8 a n h c
    r.z = (r.value == 0) ∧ r.n = n ∧ r.h = false ∧ r.c = if n then c else c || decide (0x99 < a.toNat) := by
  cases n <;> exact ⟨rfl, rfl, rfl, rfl⟩

/-! The statements. -/

/-- Settles O24: both are Add8, ADD with carry 0, ADC with the flag's. -/
theorem addWithAndWithoutCarry : Obligations.AddWithAndWithoutCarry := by
  rintro n ⟨i, op, src, cost, bytes⟩ hrow s
  obtain ⟨hop, hencode, hexec⟩ := add_row s hrow
  have hregs := regsOnly_of_alu s hexec
  refine ⟨hencode, ?_⟩
  rcases hop with rfl | rfl <;> exact hregs

/-- Settles O25: all are Sub8, SBC with the flag's carry, the others with 0; CP keeps A. -/
theorem subtractAndCompare : Obligations.SubtractAndCompare := by
  rintro n ⟨i, op, src, cost, bytes⟩ hrow s
  obtain ⟨hop, hencode, hexec⟩ := sub_row s hrow
  have hregs := regsOnly_of_alu s hexec
  refine ⟨hencode, ?_⟩
  rcases hop with rfl | rfl | rfl <;> simp only [aluResult, sub8_value] at hregs
  · exact hregs
  · exact hregs
  · exact hregs

/-- Settles O26: each is Logic of its bitwise result, with H for AND. -/
theorem logicOperations : Obligations.LogicOperations := by
  rintro n ⟨i, op, src, cost, bytes⟩ hrow s
  obtain ⟨hop, hencode, hexec⟩ := logic_row s hrow
  have hregs := regsOnly_of_alu s hexec
  refine ⟨hencode, ?_⟩
  rcases hop with rfl | rfl | rfl <;> exact hregs

/-- Settles O27: each row writes back its operand's INC or DEC, with the carry it found. -/
theorem incrementDecrementByte : Obligations.IncrementDecrementByte := by
  intro s keptC incF decF m
  have hinc := stores_of_writeBack s (i := .incMemHL) (n := 12) (r := inc8 m s.fC) rfl
  have hdec := stores_of_writeBack s (i := .decMemHL) (n := 12) (r := dec8 m s.fC) rfl
  rw [inc8_eq] at hinc
  rw [dec8_eq] at hdec
  refine ⟨fun row h => ?_, fun row h => ?_, rfl, rfl, hinc, hdec⟩
  · obtain ⟨hencode, hexec⟩ := incReg_row s h
    have hregs := regsOnly_of_writeBack s hexec
    rw [inc8_eq] at hregs
    exact ⟨hencode, hregs⟩
  · obtain ⟨hencode, hexec⟩ := decReg_row s h
    have hregs := regsOnly_of_writeBack s hexec
    rw [dec8_eq] at hregs
    exact ⟨hencode, hregs⟩

/-- Settles O28: the number of the result, and Z from it. -/
theorem decimalAdjust : Obligations.DecimalAdjust := by
  intro s a n h c high low r
  have hregs := regsOnly_of_writeBack s (i := .daa) (n := 4) (x := .a) (r := daa8 s.regs.a n h c) rfl
  obtain ⟨hz, hn, hh, hc⟩ := daa8_flags s.regs.a n h c
  obtain ⟨hvalue, hzero⟩ := eq_ofNat_and_beq_zero_of_toNat (daa8_toNat s.regs.a n h c)
  rw [hz, hn, hh, hc, hzero, hvalue] at hregs
  exact ⟨rfl, hregs⟩

/-- Settles O29: the complement is the distance to 255. -/
theorem complementAndCarryFlag : Obligations.ComplementAndCarryFlag := by
  intro s z c
  have hcpl : BitVec.ofNat 8 (255 - s.regs.a.toNat) = ~~~s.regs.a := by bv_omega
  rw [hcpl]
  exact ⟨rfl, rfl, rfl, regsOnly_of_setFlags s (r := { s.regs with a := ~~~s.regs.a }) rfl,
    regsOnly_of_setFlags s (r := s.regs) rfl, regsOnly_of_setFlags s (r := s.regs) rfl⟩

end Sys2Proof.Machine
end

section
/-! PROOFS. 16-bit arithmetic (42_alu16): the words as numbers, and the rows that run each shared operation. -/

namespace Sys2Proof.Machine

variable (s : State)

/-- DEC adds 65535 modulo 2^16. -/
theorem word_sub_one (v : Word) : v - 1 = BitVec.ofNat 16 (v.toNat + 65535) := by bv_omega

/-- The displaced stack pointer as a number (42_alu16 R234). -/
theorem add_sext16 (v : Word) (e : Byte) :
    v + sext16 e = BitVec.ofNat 16 (v.toNat + e.toNat + (if e.toNat < 128 then 0 else 0xFF00)) := by
  rw [sext16_eq, add_assoc, BitVec.ofNat_add v.toNat, BitVec.ofNat_toNat, BitVec.setWidth_eq]

/-- `ADD HL,rr` writes HL and the flags, and keeps Z. -/
theorem regsOnly_of_addHl {i : Instr} {n : Nat} {p : Pair} (h : exec i s = finish n (s.addHl p)) :
    RegsOnly i s n { s.regs.setPair .hl (s.pair .hl + s.pair p) with
      f := flagByte s.fZ false (addHlHalf (s.pair .hl) (s.pair p)) (addHlCarry (s.pair .hl) (s.pair p)) } :=
  regsOnly_of_setFlags s h

/-! The rows (42_alu16 R231 to R233). -/

/-- Each of the 4 rows adds its pair to HL. -/
theorem addHl_row {row : Instr × Pair} (h : row ∈ addHlRows) :
    encode row.1 = [opByteP 0 (pairCode row.2) 1 1] ∧ exec row.1 s = finish 8 (s.addHl row.2) := by
  unfold addHlRows at h
  fin_cases h <;> exact ⟨rfl, rfl⟩

/-- Each of the 4 rows increments its pair. -/
theorem incPair_row {row : Instr × Pair} (h : row ∈ incPairRows) :
    encode row.1 = [opByteP 0 (pairCode row.2) 0 3] ∧
      exec row.1 s = finish 8 (s.setPair row.2 (s.pair row.2 + 1)) := by
  unfold incPairRows at h
  fin_cases h <;> exact ⟨rfl, rfl⟩

/-- Each of the 4 rows decrements its pair. -/
theorem decPair_row {row : Instr × Pair} (h : row ∈ decPairRows) :
    encode row.1 = [opByteP 0 (pairCode row.2) 1 3] ∧
      exec row.1 s = finish 8 (s.setPair row.2 (s.pair row.2 - 1)) := by
  unfold decPairRows at h
  fin_cases h <;> exact ⟨rfl, rfl⟩

/-! The statements. -/

/-- Settles O30: each row is one addition to HL, whose word is the sum of the numbers modulo 2^16. -/
theorem addToHl : Obligations.AddToHl := by
  intro row hrow s a b r
  obtain ⟨hencode, hexec⟩ := addHl_row s hrow
  have hregs := regsOnly_of_addHl s hexec
  rw [BitVec.add_def] at hregs
  exact ⟨hencode, hregs⟩

/-- Settles O31: the pair alone is written, and DEC is the addition of 65535. -/
theorem incrementDecrementPair : Obligations.IncrementDecrementPair := by
  refine ⟨fun row hrow s => ?_, fun row hrow s => ?_⟩
  · obtain ⟨hencode, hexec⟩ := incPair_row s hrow
    rw [BitVec.add_def] at hexec
    exact ⟨hencode, regsOnly_of s hexec⟩
  · obtain ⟨hencode, hexec⟩ := decPair_row s hrow
    rw [word_sub_one] at hexec
    exact ⟨hencode, regsOnly_of s hexec⟩

/-- Settles O32: both add the sign-extended displacement, one to SP and one into HL, with the same flags. -/
theorem stackPointerOffset : Obligations.StackPointerOffset := by
  intro s e sp v f
  have hsp : RegsOnly (.addSPE8 e) s 16 { s.regs with sp := s.regs.sp + sext16 e, f := f } :=
    regsOnly_of_setFlags s (r := { s.regs with sp := s.regs.sp + sext16 e }) rfl
  have hhl : RegsOnly (.ldHLSPE e) s 12 { s.regs.setPair .hl (s.regs.sp + sext16 e) with f := f } :=
    regsOnly_of_setFlags s (r := s.regs.setPair .hl (s.regs.sp + sext16 e)) rfl
  rw [add_sext16] at hsp hhl
  exact ⟨rfl, rfl, hsp, hhl⟩

end Sys2Proof.Machine
end

section
/-! PROOFS. Rotates, shifts and bit instructions (43_rotate_shift_bit): R250's table as numbers, each operation as a write
back, then the rows that run it. -/

namespace Sys2Proof.Machine

/-! The table of R250 as numbers. -/

/-- The number a rotate or shift makes of the number `v` with the carry `c`, before it is taken modulo 256 (R250). -/
def shiftNat (op : ShiftOp) (v c : Nat) : Nat :=
  match op with
  | .rlc => 2 * v + v / 128
  | .rrc => v / 2 + 128 * (v % 2)
  | .rl => 2 * v + c
  | .rr => v / 2 + 128 * c
  | .sla => 2 * v
  | .sra => v / 2 + 128 * (v / 128)
  | .swap => 16 * v + v / 16
  | .srl => v / 2

/-- The bit shifted out of the number `v`: bit 7 to the left, bit 0 to the right, none for SWAP (R250). -/
def shiftOutNat (op : ShiftOp) (v : Nat) : Bool :=
  if op = .swap then false
  else if op = .rlc ∨ op = .rl ∨ op = .sla then v / 128 == 1 else v % 2 == 1

/-- The result of a rotate or shift with its four flags, in numbers (R250). -/
def shiftResult (op : ShiftOp) (v : Byte) (carry : Bool) : AluResult :=
  let r := shiftNat op v.toNat carry.toNat % 256
  { value := BitVec.ofNat 8 r, z := r == 0, n := false, h := false, c := shiftOutNat op v.toNat }

/-- Bit 7 as a number, beside `bitOf_zero_eq`. -/
theorem bitOf_seven_eq : ∀ v : Byte, bitOf v 7 = (v.toNat / 128 == 1) := by decide

/-- The shifted bytes are the table's numbers modulo 256, operation by operation over the 512 inputs. -/
theorem shift8_toNat (op : ShiftOp) (v : Byte) (carry : Bool) :
    (shift8 op v carry).1.toNat = shiftNat op v.toNat carry.toNat % 256 := by
  revert v carry
  cases op <;> decide +kernel

/-- A left shift gives out bit 7, a right shift bit 0. -/
theorem shift8_out (op : ShiftOp) (v : Byte) (carry : Bool) :
    (shift8 op v carry).2 = shiftOutNat op v.toNat := by
  cases op
  case rlc | rl | sla => exact bitOf_seven_eq v
  case rrc | rr | sra | srl => exact bitOf_zero_eq v
  case swap => rfl

/-- The shifted byte is the table's number as a byte. -/
theorem shift8_value (op : ShiftOp) (v : Byte) (carry : Bool) :
    (shift8 op v carry).1 = BitVec.ofNat 8 (shiftNat op v.toNat carry.toNat) :=
  BitVec.eq_of_toNat_eq ((shift8_toNat op v carry).trans (BitVec.toNat_ofNat _ 8).symm)

variable (s : State) {i : Instr} {n : Nat}

/-! Each operation as a write back, or as a change of the flags. -/

/-- A prefixed rotate or shift writes its result back to its operand. -/
theorem shiftLoc_eq_writeBack (op : ShiftOp) (l : Loc8) :
    s.shiftLoc op l = s.writeBack l (shiftResult op (s.readLoc l) s.fC) := by
  obtain ⟨hvalue, hzero⟩ := eq_ofNat_and_beq_zero_of_toNat (shift8_toNat op (s.readLoc l) s.fC)
  unfold State.shiftLoc
  dsimp only
  rw [shift8_out, hzero, hvalue]
  rfl

/-- An accumulator rotate writes A, and clears Z, N and H whatever the result (R251). -/
theorem regsOnly_of_rotateA {op : ShiftOp} {v : Nat} {c : Bool} (h : exec i s = finish n (s.rotateA op))
    (hv : shiftNat op s.regs.a.toNat s.fC.toNat = v) (hc : (shift8 op s.regs.a s.fC).2 = c) :
    RegsOnly i s n { s.regs with a := BitVec.ofNat 8 v, f := flagByte false false false c } := by
  rw [← hv, ← shift8_value, ← hc]
  exact regsOnly_of_setFlags s (r := { s.regs with a := (shift8 op s.regs.a s.fC).1 }) h

/-- BIT changes the flags alone (R271, R272). -/
theorem regsOnly_of_testBit {b : Nat} {l : Loc8} (h : exec i s = finish n (s.testBit b l)) :
    RegsOnly i s n { s.regs with f := flagByte (!(s.readLoc l).getLsbD b) false true s.fC } :=
  regsOnly_of_setFlags s (r := s.regs) h

/-- The byte RES (`value` false) or SET (`value` true) makes of `v`. -/
def putBit (value : Bool) (v : Byte) (b : Nat) : Byte :=
  if value then v ||| 1#8 <<< b else v &&& ~~~(1#8 <<< b)

/-- The one bit is the value put, the seven others are kept (R273, R275). -/
theorem getLsbD_putBit (value : Bool) (v : Byte) (b : BitVec 3) {j : Nat} (hj : j < 8) :
    (putBit value v b.toNat).getLsbD j = if j = b.toNat then value else v.getLsbD j := by
  cases value
  · exact resetBit_bits v ⟨b.toNat, b.isLt⟩ ⟨j, hj⟩
  · exact setBit_bits v ⟨b.toNat, b.isLt⟩ ⟨j, hj⟩

/-! The rows (R255 to R276). -/

/-- Each of the 56 rows rotates or shifts its register. -/
theorem shiftReg_row {row : Instr × ShiftOp × Reg8} (h : row ∈ shiftRegRows) :
    encode row.1 = [0xCB, opByte 0 (shiftCode row.2.1) (regCode row.2.2)] ∧
      exec row.1 s = finish 8 (s.shiftLoc row.2.1 (.reg row.2.2)) := by
  unfold shiftRegRows at h
  fin_cases h <;> exact ⟨rfl, rfl⟩

/-- Each of the 8 rows rotates or shifts the byte at HL. -/
theorem shiftMem_row {row : Instr × ShiftOp} (h : row ∈ shiftMemRows) :
    encode row.1 = [0xCB, opByte 0 (shiftCode row.2) 6] ∧
      exec row.1 s = finish 16 (s.shiftLoc row.2 .memHL) := by
  unfold shiftMemRows at h
  fin_cases h <;> exact ⟨rfl, rfl⟩

/-- Each of the 56 rows tests its bit of its register. -/
theorem bitReg_row {row : Instr × BitVec 3 × Reg8} (h : row ∈ bitRegRows) :
    encode row.1 = [0xCB, opByte 1 row.2.1 (regCode row.2.2)] ∧
      exec row.1 s = finish 8 (s.testBit row.2.1.toNat (.reg row.2.2)) := by
  unfold bitRegRows at h
  fin_cases h <;> exact ⟨rfl, rfl⟩

/-- Each of the 8 rows tests its bit of the byte at HL. -/
theorem bitMem_row {row : Instr × BitVec 3} (h : row ∈ bitMemRows) :
    encode row.1 = [0xCB, opByte 1 row.2 6] ∧ exec row.1 s = finish 12 (s.testBit row.2.toNat .memHL) := by
  unfold bitMemRows at h
  fin_cases h <;> exact ⟨rfl, rfl⟩

/-- Each of the 56 rows of RES, and of SET, puts its bit in its register. -/
theorem putReg_row {value : Bool} {row : Instr × BitVec 3 × Reg8}
    (h : row ∈ if value then setRegRows else resRegRows) :
    encode row.1 = [0xCB, opByte (if value then 3 else 2) row.2.1 (regCode row.2.2)] ∧
      exec row.1 s =
        finish 8 (s.writeLoc (.reg row.2.2) (putBit value (s.regs.get row.2.2) row.2.1.toNat)) := by
  cases value
  case false =>
    rw [if_neg Bool.false_ne_true, resRegRows] at h
    fin_cases h <;> exact ⟨rfl, rfl⟩
  case true =>
    rw [if_pos rfl, setRegRows] at h
    fin_cases h <;> exact ⟨rfl, rfl⟩

/-- Each of the 8 rows of RES, and of SET, puts its bit in the byte at HL. -/
theorem putMem_row {value : Bool} {row : Instr × BitVec 3} (h : row ∈ if value then setMemRows else resMemRows) :
    encode row.1 = [0xCB, opByte (if value then 3 else 2) row.2 6] ∧
      exec row.1 s = finish 16 (s.storeTo .hl (putBit value (s.memRead (s.ea .hl)) row.2.toNat)) := by
  cases value
  case false =>
    rw [if_neg Bool.false_ne_true, resMemRows] at h
    fin_cases h <;> exact ⟨rfl, rfl⟩
  case true =>
    rw [if_pos rfl, setMemRows] at h
    fin_cases h <;> exact ⟨rfl, rfl⟩

/-! The statements. -/

/-- Settles O33: R250's four rotates on A, with Z forced to 0. -/
theorem accumulatorRotates : Obligations.AccumulatorRotates := by
  intro s a c out
  exact ⟨rfl, rfl, rfl, rfl, regsOnly_of_rotateA s (op := .rlc) rfl rfl rfl,
    regsOnly_of_rotateA s (op := .rrc) rfl rfl rfl, regsOnly_of_rotateA s (op := .rl) rfl rfl rfl,
    regsOnly_of_rotateA s (op := .rr) rfl rfl rfl⟩

/-- Settles O34: each row writes R250's result back to its register. -/
theorem shiftsOfRegisters : Obligations.ShiftsOfRegisters := by
  rintro ⟨i, op, reg⟩ hrow s
  obtain ⟨hencode, hexec⟩ := shiftReg_row s hrow
  rw [shiftLoc_eq_writeBack] at hexec
  have hregs := regsOnly_of_writeBack s hexec
  exact ⟨hencode, hregs⟩

/-- Settles O35: each row writes R250's result back to the byte at HL. -/
theorem shiftsOfMemory : Obligations.ShiftsOfMemory := by
  rintro ⟨i, op⟩ hrow s
  obtain ⟨hencode, hexec⟩ := shiftMem_row s hrow
  rw [shiftLoc_eq_writeBack] at hexec
  have hstores := stores_of_writeBack s hexec
  exact ⟨hencode, hstores⟩

/-- Settles O36: each row tests its bit and keeps C. -/
theorem bitTests : Obligations.BitTests := by
  refine ⟨?_, ?_⟩
  · rintro ⟨i, b, reg⟩ hrow s
    obtain ⟨hencode, hexec⟩ := bitReg_row s hrow
    have hregs := regsOnly_of_testBit s hexec
    exact ⟨hencode, hregs⟩
  · rintro ⟨i, b⟩ hrow s
    obtain ⟨hencode, hexec⟩ := bitMem_row s hrow
    have hregs := regsOnly_of_testBit s hexec
    exact ⟨hencode, hregs⟩

/-- Settles O37: the byte is the operand with the one bit put in, written back without a flag. -/
theorem bitResetAndSet : Obligations.BitResetAndSet := by
  intro s value put x
  refine ⟨fun row hrow => ?_, fun row hrow => ?_⟩
  · obtain ⟨hencode, hexec⟩ := putReg_row s hrow
    exact ⟨_, fun j hj => getLsbD_putBit value _ _ hj, hencode, regsOnly_of s hexec⟩
  · obtain ⟨hencode, hexec⟩ := putMem_row s hrow
    exact ⟨_, fun j hj => getLsbD_putBit value _ _ hj, hencode, stores_of_storeTo s hexec⟩

end Sys2Proof.Machine
end

section
/-! PROOFS. Control transfer (44_control): what a jump, a call and a return leave of the state, both ways of a
condition, and the rows that run them. -/

namespace Sys2Proof.Machine

variable (s : State) {i : Instr} {n : Nat}

/-! What a transfer leaves, taken or not. -/

/-- A conditional change of the register file: made when the condition holds, and none otherwise. -/
theorem regsOnly_of_finishIf {b : Bool} {m : Nat} {r : Regs}
    (h : exec i s = finishIf b n m { s with regs := r } s) :
    (b = true → RegsOnly i s n r) ∧ (b = false → RegsOnly i s m s.regs) :=
  ⟨fun hb => regsOnly_of s (h.trans (finishIf_true hb)), fun hb => regsOnly_of s (h.trans (finishIf_false hb))⟩

/-- The relative target as a number (44_control R284). -/
theorem relTarget_eq (e : Byte) :
    s.relTarget e = BitVec.ofNat 16 (s.regs.pc.toNat + e.toNat + (if e.toNat < 128 then 0 else 0xFF00)) :=
  add_sext16 s.regs.pc e

/-- CALL and RST store the two bytes of PC, the high byte first, move SP and go to the target (44_control R286). -/
theorem stores_of_call {v : Word} (h : exec i s = finish n (s.call v)) :
    Stores i s n { s.regs with sp := s.regs.sp - 2, pc := v }
      [(s.regs.sp - 1, hiByte s.regs.pc), (s.regs.sp - 2, loByte s.regs.pc)] := by
  refine stores_of s (h.trans ?_)
  rw [State.call, push16_eq]
  rfl

/-- A conditional call, taken or not (44_control R287). -/
theorem stores_of_callIf {cc : Cond} {v : Word} (h : exec i s = callIf cc v s) :
    (s.cond cc = true → Stores i s 24 { s.regs with sp := s.regs.sp - 2, pc := v }
      [(s.regs.sp - 1, hiByte s.regs.pc), (s.regs.sp - 2, loByte s.regs.pc)]) ∧
    (s.cond cc = false → RegsOnly i s 12 s.regs) :=
  ⟨fun hcc => stores_of_call s (h.trans (finishIf_true hcc)),
    fun hcc => regsOnly_of s (h.trans (finishIf_false hcc))⟩

/-! The rows (44_control R282 to R291). -/

/-- Each of the 4 rows jumps to its word under its condition. -/
theorem jpCond_row {nn : Word} {row : Instr × Cond} (h : row ∈ jpCondRows nn) :
    encode row.1 = [opByte 3 (0#1 ++ condCode row.2) 2, loByte nn, hiByte nn] ∧
      exec row.1 s = jumpIf row.2 nn s := by
  unfold jpCondRows at h
  fin_cases h <;> dsimp only <;> exact ⟨rfl, rfl⟩

/-- Each of the 4 rows jumps to its relative target under its condition. -/
theorem jrCond_row {e : Byte} {row : Instr × Cond} (h : row ∈ jrCondRows e) :
    encode row.1 = [opByte 0 (1#1 ++ condCode row.2) 0, e] ∧ exec row.1 s = jumpRelIf row.2 e s := by
  unfold jrCondRows at h
  fin_cases h <;> dsimp only <;> exact ⟨rfl, rfl⟩

/-- Each of the 4 rows calls its word under its condition. -/
theorem callCond_row {nn : Word} {row : Instr × Cond} (h : row ∈ callCondRows nn) :
    encode row.1 = [opByte 3 (0#1 ++ condCode row.2) 4, loByte nn, hiByte nn] ∧
      exec row.1 s = callIf row.2 nn s := by
  unfold callCondRows at h
  fin_cases h <;> dsimp only <;> exact ⟨rfl, rfl⟩

/-- Each of the 4 rows returns under its condition. -/
theorem retCond_row {row : Instr × Cond} (h : row ∈ retCondRows) :
    encode row.1 = [opByte 3 (0#1 ++ condCode row.2) 0] ∧ exec row.1 s = retIf row.2 s := by
  unfold retCondRows at h
  fin_cases h <;> exact ⟨rfl, rfl⟩

/-- Each of the 8 rows calls eight times its y field. -/
theorem rst_row {row : Instr × BitVec 3} (h : row ∈ rstRows) :
    encode row.1 = [opByte 3 row.2 7] ∧
      exec row.1 s = finish 16 (s.call (BitVec.ofNat 16 (8 * row.2.toNat))) := by
  unfold rstRows at h
  fin_cases h <;> exact ⟨rfl, rfl⟩

/-! The statements. -/

/-- Settles O38: each jump writes PC alone, and a condition's flag decides whether it does. -/
theorem jumpsAndConditions : Obligations.JumpsAndConditions := by
  intro s nn e rel holds jump
  have hcond : ∀ cc, holds cc = s.cond cc := by rintro (_ | _ | _ | _) <;> rfl
  have hrel : s.relTarget e = rel := relTarget_eq s e
  refine ⟨rfl, rfl, rfl, regsOnly_of s rfl, regsOnly_of s rfl, ?_, fun row hrow => ?_, fun row hrow => ?_⟩
  · rw [← hrel]
    exact regsOnly_of s rfl
  · obtain ⟨hencode, hexec⟩ := jpCond_row s hrow
    rw [hcond]
    exact ⟨hencode, regsOnly_of_finishIf s hexec⟩
  · obtain ⟨hencode, hexec⟩ := jrCond_row s hrow
    rw [hcond, ← hrel]
    exact ⟨hencode, regsOnly_of_finishIf s hexec⟩

/-- Settles O39: CALL, CALL cc when taken and RST are one operation, which pushes PC and goes to the target. -/
theorem callsAndRestarts : Obligations.CallsAndRestarts := by
  intro s nn push jump holds
  have hcond : ∀ cc, holds cc = s.cond cc := by rintro (_ | _ | _ | _) <;> rfl
  refine ⟨rfl, stores_of_call s rfl, fun row hrow => ?_, fun row hrow => ?_⟩
  · obtain ⟨hencode, hexec⟩ := callCond_row s hrow
    rw [hcond]
    exact ⟨hencode, stores_of_callIf s hexec⟩
  · obtain ⟨hencode, hexec⟩ := rst_row s hrow
    exact ⟨hencode, stores_of_call s hexec⟩

/-- Settles O40: the word popped goes to PC; RETI changes the enable and its delay beside. -/
theorem returns : Obligations.Returns := by
  intro s back holds
  have hcond : ∀ cc, holds cc = s.cond cc := by rintro (_ | _ | _ | _) <;> rfl
  refine ⟨rfl, rfl, regsOnly_of s rfl, ⟨_, rfl, rfl, fun a => rfl⟩, fun row hrow => ?_⟩
  obtain ⟨hencode, hexec⟩ := retCond_row s hrow
  rw [hcond]
  exact ⟨hencode, regsOnly_of_finishIf s hexec⟩

end Sys2Proof.Machine
end

section
/-! PROOFS. System instructions (45_system R310 to R316): the Locked state, the enable of interrupts and its delay, and
the instructions that change the run state or the enable. -/

namespace Sys2Proof.Machine

variable {s t : State} {i : Instr}

/-! The Locked state (45_system R316, 60_exceptions R349). -/

/-- The bytes of R135 begin no instruction, whatever follows them (30_encoding R122). -/
theorem fetchInstr_of_illegal (h : s.opcodeByte ∈ illegalOpcodes) : s.fetchInstr = none :=
  decode3_eq_none_iff.2 (opForm_eq_illegal_iff.2 h)

/-- The step of an illegal opcode: the CPU locks after the fetch of its one byte, the instruction ends and the
peripherals advance (45_system R316). -/
theorem step_of_fetchInstr_none (hrun : s.run = .running) (hdispatch : s.ime = false ∨ s.pendingMask = 0)
    (hfetch : s.fetchInstr = none) : step s = .next (s.afterFetch 1).lockCpu.endOfInstruction.advance := by
  have hcpu : s.cpuPhase = s.runInstr := by
    rw [State.cpuPhase, hrun]
    exact runStep_of_no_dispatch hdispatch
  rw [step, hcpu, State.runInstr, hfetch]
  rfl

/-- The fetch of one byte leaves PC past it, or at it where HALT_BUG was set (30_encoding R121). -/
theorem afterFetch_one (s : State) :
    s.afterFetch 1 =
      { s with regs := { s.regs with pc := if s.haltBug then s.regs.pc else s.regs.pc + 1 }, haltBug := false } := by
  rw [State.afterFetch, State.operandAddr, BitVec.add_zero]

/-- A locked CPU idles (60_exceptions R349, R402). -/
theorem step_of_locked (h : s.run = .locked) : step s = .next (s.report idleCycles).advance := by
  rw [step, State.cpuPhase, h]
  rfl

/-- A locked CPU stays as it is, and each of its steps reports an idle step's cycles (60_exceptions R349). The first
state may hold that report already, which is what the induction needs of the state after one step. -/
theorem steps_of_locked (n : Nat) (h : s.run = .locked) :
    ∃ t, steps n s = some t ∧ t.run = .locked ∧ t.regs = s.regs ∧ t.mem = s.mem ∧ t.ie = s.ie ∧ t.ime = s.ime ∧
      (0 < n ∨ s.cycles = idleCycles → t.cycles = idleCycles) := by
  induction n generalizing s with
  | zero => exact ⟨s, rfl, h, rfl, rfl, rfl, rfl, fun hn => hn.resolve_left (lt_irrefl 0)⟩
  | succ n ih =>
    have hnext : (s.report idleCycles).advance.run = .locked := (State.advance_run _).trans h
    obtain ⟨t, hsteps, hrun, hregs, hmem, hie, hime, hcycles⟩ := ih hnext
    refine ⟨t, ?_, hrun, hregs.trans (State.advance_regs _), hmem.trans (State.advance_mem _),
      hie.trans (State.advance_ie _), hime.trans (State.advance_ime _),
      fun _ => hcycles (.inr (State.advance_cycles _))⟩
    rw [steps, step_of_locked h]
    exact hsteps

/-- Settles O12: the decoder refuses the byte, so the CPU locks; and a locked CPU only idles. -/
theorem illegalOpcodeLocks : Obligations.IllegalOpcodeLocks := by
  refine ⟨fun s hrun hdispatch hopcode => ?_, fun n s h => ?_⟩
  · rw [step_of_fetchInstr_none hrun hdispatch (fetchInstr_of_illegal hopcode), afterFetch_one]
    rfl
  · obtain ⟨t, hsteps, hrun, hregs, hmem, hie, hime, hcycles⟩ := steps_of_locked n h
    exact ⟨t, hsteps, hrun, hregs, hmem, hie, hime, fun hn => hcycles (.inl hn)⟩

/-! HALT and EI case by case (45_system R311, R314). -/

theorem halt_eq_halted (h : s.ime = true ∨ s.pendingMask = 0) : s.halt = { s with run := .halted } :=
  if_pos (by simpa using h)

theorem halt_eq_haltBug (hime : s.ime = false) (hmask : s.pendingMask ≠ 0) : s.halt = { s with haltBug := true } :=
  if_neg (by simpa [hime] using hmask)

theorem enableInterrupts_starts (hime : s.ime = false) (hdelay : s.eiDelay = 0) :
    s.enableInterrupts = { s with eiDelay := 2 } :=
  if_pos ⟨hime, hdelay⟩

theorem enableInterrupts_eq_self (h : s.ime = true ∨ s.eiDelay ≠ 0) : s.enableInterrupts = s :=
  if_neg fun ⟨hime, hdelay⟩ => h.elim (ne_true_of_eq_false hime) (absurd hdelay)

@[simp] theorem halt_ime (s : State) : s.halt.ime = s.ime := by unfold State.halt; split <;> rfl
@[simp] theorem halt_eiDelay (s : State) : s.halt.eiDelay = s.eiDelay := by unfold State.halt; split <;> rfl
@[simp] theorem enableInterrupts_ime (s : State) : s.enableInterrupts.ime = s.ime := by
  unfold State.enableInterrupts; split <;> rfl

/-! The enable of interrupts and its delay (45_system R313, R314, 60_exceptions R403). -/

/-- The end of an instruction counts the delay down (60_exceptions R403). -/
theorem endOfInstruction_eiDelay (s : State) : s.endOfInstruction.eiDelay = s.eiDelay - 1 := by
  unfold State.endOfInstruction
  split_ifs with h0 h1
  · rw [h0]
  · rw [h1]
  · rfl

/-- The end of an instruction sets IME where the delay runs out, and never clears it (60_exceptions R403). -/
theorem endOfInstruction_ime_iff (s : State) : s.endOfInstruction.ime = true ↔ s.ime = true ∨ s.eiDelay = 1 := by
  unfold State.endOfInstruction
  split_ifs with h0 h1
  · simp [h0]
  · simp [h1]
  · simp [h1]

/-- What an instruction leaves of IME and EI_DELAY before its end: DI and RETI set both, EI acts on the delay, and every
other instruction keeps both (45_system R313, R314, 44_control R289). -/
inductive EnableEffect (s t : State) : Instr → Prop where
  | di (hime : t.ime = false) (hdelay : t.eiDelay = 0) : EnableEffect s t .di
  | reti (hime : t.ime = true) (hdelay : t.eiDelay = 0) : EnableEffect s t .reti
  | ei (hime : t.ime = s.ime) (hdelay : t.eiDelay = s.enableInterrupts.eiDelay) : EnableEffect s t .ei
  | other {i : Instr} (hdi : i ≠ .di) (hreti : i ≠ .reti) (hei : i ≠ .ei) (hime : t.ime = s.ime)
      (hdelay : t.eiDelay = s.eiDelay) : EnableEffect s t i

/-- The inversion of an instruction as to the enable. -/
theorem exec_enableEffect (h : exec i s = .next t) : EnableEffect s t i := by
  by_cases hdi : i = .di
  · subst hdi; cases h; exact .di rfl rfl
  by_cases hreti : i = .reti
  · subst hreti; cases h; exact .reti rfl rfl
  by_cases hei : i = .ei
  · subst hei; cases h; exact .ei (enableInterrupts_ime s) rfl
  cases exec_effect h with
  | path hp => exact .other hdi hreti hei (sameControl_of_path hp).ime (sameControl_of_path hp).eiDelay
  | halt => exact .other hdi hreti hei (halt_ime s) (halt_eiDelay s)
  | stop => exact .other hdi hreti hei rfl rfl
  | di => exact absurd rfl hdi
  | ei => exact absurd rfl hei
  | reti => exact absurd rfl hreti

/-- An enable in flight takes effect at the end of the instruction, but for DI (45_system R313, R314). -/
theorem EnableEffect.of_in_flight (h : EnableEffect s t i) (hone : s.eiDelay = 1) :
    (t.endOfInstruction.ime = true ↔ i ≠ .di) ∧ t.endOfInstruction.eiDelay = 0 := by
  rw [endOfInstruction_ime_iff, endOfInstruction_eiDelay]
  cases h with
  | di hime hdelay => simp [hime, hdelay]
  | reti hime hdelay => simp [hime, hdelay]
  | ei hime hdelay =>
    rw [enableInterrupts_eq_self (.inr (by simp [hone]))] at hdelay
    simp [hdelay, hone]
  | other hdi _ _ hime hdelay => simp [hdi, hdelay, hone]

/-- With no enable in flight RETI alone sets IME, and EI alone leaves a delay (45_system R314, 44_control R289). -/
theorem EnableEffect.of_none_in_flight (h : EnableEffect s t i) (hoff : s.ime = false) (hzero : s.eiDelay = 0) :
    (t.endOfInstruction.ime = true ↔ i = .reti) ∧ (i = .ei → t.endOfInstruction.eiDelay = 1) ∧
      (i ≠ .ei → t.endOfInstruction.eiDelay = 0) := by
  rw [endOfInstruction_ime_iff, endOfInstruction_eiDelay]
  cases h with
  | di hime hdelay => simp [hime, hdelay]
  | reti hime hdelay => simp [hime, hdelay]
  | ei hime hdelay =>
    rw [enableInterrupts_starts hoff hzero] at hdelay
    simp [hime, hoff, hdelay]
  | other _ hreti hei hime hdelay => simp [hreti, hei, hime, hoff, hdelay, hzero]

/-- Whatever the delay, IME rises by an enable in flight or by RETI alone (60_exceptions R403, 44_control R289). -/
theorem EnableEffect.of_ime_rises (h : EnableEffect s t i) (hoff : s.ime = false)
    (hon : t.endOfInstruction.ime = true) : s.eiDelay = 1 ∨ i = .reti := by
  rw [endOfInstruction_ime_iff] at hon
  cases h with
  | di hime hdelay => simp [hime, hdelay] at hon
  | reti => exact .inr rfl
  | ei hime hdelay =>
    by_cases hzero : s.eiDelay = 0
    · simp [hime, hoff, hdelay, enableInterrupts_starts hoff hzero] at hon
    · rw [enableInterrupts_eq_self (.inr hzero)] at hdelay
      exact .inl (by simpa [hime, hoff, hdelay] using hon)
  | other _ _ _ hime hdelay => exact .inl (by simpa [hime, hoff, hdelay] using hon)

/-- Settles O16, by what each instruction leaves of the enable. An idle step keeps IME, a dispatch needs it set, and
an illegal opcode's end counts the delay down as an instruction's does. -/
theorem enableTakesEffectAfterNextInstruction : Obligations.EnableTakesEffectAfterNextInstruction := by
  refine ⟨fun i s t _ hone h => (exec_enableEffect h).of_in_flight hone,
    fun i s t hoff hzero h => (exec_enableEffect h).of_none_in_flight hoff hzero, fun s t h hoff hon => ?_⟩
  obtain ⟨u, hu, rfl⟩ := step_phase h
  rw [State.advance_ime] at hon
  cases hu with
  | idle => exact absurd hon (ne_true_of_eq_false hoff)
  | dispatch k hime => exact absurd hime (ne_true_of_eq_false hoff)
  | instr i v _ hfetch hexec =>
    rw [hfetch, Option.some_inj]
    exact (exec_enableEffect hexec).of_ime_rises (s := s.wake.afterFetch _) hoff hon
  | illegal =>
    exact .inl (((endOfInstruction_ime_iff _).1 hon).resolve_left (ne_true_of_eq_false hoff))

/-! The instructions (45_system R310 to R314). -/

/-- STOP resets the divider as a write to DIV does, so no other address reads otherwise (45_system R312, 60_exceptions
R365). -/
theorem memRead_stop_of_ne {a : Word} (s : State) (h : a ≠ 0xFF04) : s.stop.memRead a = s.memRead a := by
  have hdiv : s.memWrite 0xFF04 0 = { s with timer := s.timer.resetDiv } := memWrite_io s 0x04 0 (by decide)
  have htouches : s.touches 0xFF04 a = false := beq_eq_false_iff_ne.2 h
  calc s.stop.memRead a
      = (s.memWrite 0xFF04 0).memRead a := by rw [hdiv]; rfl
    _ = s.memRead a := memRead_memWrite_of_not_touches 0 htouches

/-- After STOP the divider reads 0 (45_system R312). -/
theorem memRead_report_stop_div (s : State) (n : Nat) : (s.stop.report n).memRead 0xFF04 = 0 :=
  memRead_io (s.stop.report n) 0x04 (by decide)

/-- Settles O41: each instruction is its operation and a report of 4 cycles, and but for STOP none changes what a read
depends on. -/
theorem systemInstructions : Obligations.SystemInstructions := by
  intro s n quiet
  exact ⟨rfl, rfl, rfl, rfl, rfl, regsOnly_of s rfl,
    fun h => ⟨congrArg (finish 4) (halt_eq_halted h), fun _ => rfl⟩,
    fun hime hmask => ⟨congrArg (finish 4) (halt_eq_haltBug hime hmask), fun _ => rfl⟩,
    ⟨_, rfl, rfl, memRead_report_stop_div s 4, fun a ha => memRead_stop_of_ne s ha⟩,
    ⟨rfl, fun _ => rfl⟩,
    fun hime hdelay => ⟨congrArg (finish 4) (enableInterrupts_starts hime hdelay), fun _ => rfl⟩,
    fun h => ⟨congrArg (finish 4) (enableInterrupts_eq_self h), fun _ => rfl⟩⟩

end Sys2Proof.Machine
end

section
/-! PROOFS. The interrupt check and the dispatch (60_exceptions R332, R340): the lowest source enabled and requested,
and what taking it leaves. -/

namespace Sys2Proof.Machine

variable {s t : State}

/-! `pending()` (60_exceptions R332). -/

/-- A source is in the mask exactly if it is enabled and requested; IE's bits above 4 have no place in it. -/
theorem getLsbD_pendingMask (s : State) {j : Nat} (hj : j < 5) :
    s.pendingMask.getLsbD j = (s.ie.getLsbD j && s.ifReg.getLsbD j) := by
  rw [State.pendingMask, BitVec.getLsbD_and, BitVec.getLsbD_extractLsb', decide_eq_true hj, Bool.true_and,
    Nat.zero_add]

theorem lowestSource_eq_none_iff (p : BitVec 5) : lowestSource p = none ↔ ∀ j < 5, p.getLsbD j = false := by
  revert p; decide

theorem lowestSource_eq_some_iff (p : BitVec 5) (k : Irq) :
    lowestSource p = some k ↔ p.getLsbD k.bit = true ∧ ∀ j < k.bit, p.getLsbD j = false := by
  cases k <;> revert p <;> decide

theorem Irq.bit_lt (k : Irq) : k.bit < 5 := by
  cases k <;> decide

/-- Settles O14: the two answers of the search over the mask, bit by bit. -/
theorem pendingIsLowestEnabledRequest : Obligations.PendingIsLowestEnabledRequest := by
  refine fun s => ⟨(lowestSource_eq_none_iff _).trans ?_, fun k => (lowestSource_eq_some_iff _ k).trans ?_⟩
  · exact forall₂_congr fun j hj => by rw [getLsbD_pendingMask s hj]
  · rw [getLsbD_pendingMask s k.bit_lt]
    exact and_congr_right' (forall₂_congr fun j hj => by rw [getLsbD_pendingMask s (hj.trans k.bit_lt)])

/-! What the reads of a state that differs in IF alone have in common. -/

/-- IF is on the bus at 0xFF0F alone: a change of it is a write there (20_memory R75, R78). -/
theorem memRead_withIfReg_of_ne (s : State) (f : BitVec 5) {a : Word} (h : a ≠ 0xFF0F) :
    ({ s with ifReg := f } : State).memRead a = s.memRead a := by
  have hlow : (f.setWidth 8).extractLsb' 0 5 = f := by revert f; decide
  have hwrite : s.memWrite 0xFF0F (f.setWidth 8) = { s with ifReg := (f.setWidth 8).extractLsb' 0 5 } :=
    memWrite_io s 0x0F _ (by decide)
  rw [hlow] at hwrite
  rw [← hwrite]
  exact memRead_memWrite_of_not_touches _ (beq_eq_false_iff_ne.2 h)

/-- What a write touches depends on the cartridge alone. -/
theorem touches_congr (h : t.mem.cart = s.mem.cart) (w a : Word) : t.touches w a = s.touches w a := by
  unfold State.touches State.ramCell
  rw [h]

/-- What a write makes of the cartridge depends on the cartridge alone (20_memory R68, R70). -/
theorem memWrite_cart_congr (h : t.mem.cart = s.mem.cart) (w : Word) (v : Byte) :
    (t.memWrite w v).mem.cart = (s.memWrite w v).mem.cart := by
  unfold State.memWrite
  cases regionOf w with
  | rom | xram => exact congrArg (Option.map _) h
  | io o => exact (ioWrite_mem t _ v).1.trans (h.trans (ioWrite_mem s _ v).1.symm)
  | vram | wram | oam | hram | ie | unusable => exact h

theorem untouched_congr (h : t.mem.cart = s.mem.cart) (ws : List (Word × Byte)) (a : Word) :
    untouched t ws a = untouched s ws a := by
  induction ws generalizing s t with
  | nil => rfl
  | cons p rest ih => rw [untouched, untouched, touches_congr h, ih (memWrite_cart_congr h p.1 p.2)]

/-! The dispatch (60_exceptions R340). -/

/-- Clearing a request clears its bit of IF alone. -/
theorem getLsbD_clear (x : BitVec 5) (k : Irq) : ∀ j < 5,
    (x &&& ~~~(1#5 <<< k.bit)).getLsbD j = (x.getLsbD j && j != k.bit) := by
  cases k <;> revert x <;> decide

/-- Taking an interrupt: the control state and the request cleared, the return address pushed, the jump to the vector
and the report (60_exceptions R340). -/
theorem dispatch_eq (s : State) (k : Irq) : s.dispatch k =
    { storeAll (s.acknowledge k)
        [(s.regs.sp - 1, hiByte s.returnAddress), (s.regs.sp - 2, loByte s.returnAddress)] with
      regs := { s.regs with sp := s.regs.sp - 2, pc := k.vector }
      cycles := dispatchCycles } := by
  have hpush := push16_eq (s.acknowledge k) s.returnAddress
  unfold State.dispatch
  exact congrArg (fun u : State => (u.setPc k.vector).report dispatchCycles) hpush

/-- A push after the acknowledge leaves the reads of every address but IF's that it does not touch. -/
theorem memRead_dispatch (k : Irq) {a : Word} (ha : a ≠ 0xFF0F)
    (h : untouched s [(s.regs.sp - 1, hiByte s.returnAddress), (s.regs.sp - 2, loByte s.returnAddress)] a = true) :
    (s.dispatch k).memRead a = s.memRead a := by
  rw [dispatch_eq]
  refine (memRead_storeAll_of_untouched (s.acknowledge k) _ ?_).trans (memRead_withIfReg_of_ne s _ ha)
  exact (untouched_congr (s := s) (t := s.acknowledge k) rfl _ a).trans h

theorem step_of_pending {k : Irq} (hrun : s.run = .running) (hime : s.ime = true) (hk : s.pending = some k) :
    step s = .next (s.dispatch k).advance := by
  have hcpu : s.cpuPhase = s.runStep := by rw [State.cpuPhase, hrun]
  rw [step, hcpu, State.runStep, hime, hk]
  rfl

/-- Settles O15: the step is the dispatch, which is an acknowledge, two bus writes and the jump. -/
theorem dispatchTakesInterrupt : Obligations.DispatchTakesInterrupt := by
  intro s k hrun hime hk ret ws
  obtain ⟨-, hime', hdelay, hrun', hbug, -, -⟩ := keepsCpu_storeAll (s.acknowledge k) ws
  refine ⟨s.ifReg &&& ~~~(1#5 <<< k.bit), s.dispatch k, getLsbD_clear _ k, dispatch_eq s k,
    step_of_pending hrun hime hk, ?_, ?_, ?_, ?_, fun a ha h => memRead_dispatch k ha h⟩ <;> rw [dispatch_eq]
  · exact hrun'.trans hrun
  · exact hime'
  · exact hdelay
  · exact hbug

end Sys2Proof.Machine
end

section
/-! PROOFS. The step by run state (60_exceptions R347 to R349, R400): an instruction of a running CPU, the idle steps of
the power states, and their waking. -/

namespace Sys2Proof.Machine

variable {s : State}

/-- Without HALT_BUG the fetch leaves PC past the instruction's bytes and changes nothing else (30_encoding R121). -/
theorem afterFetch_of_no_haltBug (h : s.haltBug = false) {n : Nat} (hn : 1 ≤ n) :
    s.afterFetch n = { s with regs := { s.regs with pc := s.regs.pc + BitVec.ofNat 16 n } } := by
  have hpc : s.operandAddr + BitVec.ofNat 16 (n - 1) = s.regs.pc + BitVec.ofNat 16 n := by
    obtain ⟨m, rfl⟩ := Nat.exists_eq_add_of_le hn
    rw [State.operandAddr, h, Nat.add_sub_cancel_left, BitVec.ofNat_add, ← BitVec.add_assoc]
    rfl
  rw [State.afterFetch, hpc, ← h]

/-- Settles O10: without HALT_BUG the operand bytes follow the opcode byte, and PC goes past all of them. -/
theorem stepRunsDecodedInstruction : Obligations.StepRunsDecodedInstruction := by
  intro s i hrun hbug hdispatch _ hdecode
  have hoperand : s.operandAddr = s.regs.pc + 1 := if_neg (by simp [hbug])
  have hfetch : s.fetchInstr = some i := by
    rw [State.fetchInstr, hoperand, BitVec.add_assoc]
    exact hdecode
  have hlen : 1 ≤ (encode i).length := by
    rw [length_encode_of_decode3 hdecode]
    exact (opForm _).length_bounds.1
  rw [step_of_fetchInstr hrun hdispatch hfetch, afterFetch_of_no_haltBug hbug hlen]

/-- An idle step reports its cycles and the peripherals advance (60_exceptions R402). -/
theorem step_of_idle (h : s.cpuPhase = s.idle) : step s = .next (s.report idleCycles).advance := by
  rw [step, h]
  rfl

/-- A CPU that wakes makes the step of the running one (60_exceptions R347, R348). -/
theorem step_of_wake (h : s.cpuPhase = s.wake.runStep) : step s = step s.wake :=
  congrArg (mapNext State.advance) h

/-- Settles O13, by run state and wake condition. -/
theorem powerStatesIdleAndWake : Obligations.PowerStatesIdleAndWake := by
  refine fun s => ⟨fun hrun hmask => step_of_idle ?_, fun hrun hmask => step_of_wake ?_,
    fun hrun hlow => step_of_idle ?_, fun hrun hlow => step_of_wake ?_, step_of_locked⟩ <;>
    rw [State.cpuPhase, hrun]
  · exact if_pos hmask
  · exact if_neg hmask
  · exact if_pos hlow
  · exact if_neg hlow

end Sys2Proof.Machine
end

section
/-! PROOFS. The timer unit over many cycles (60_exceptions R360 to R364): the divider, and TIMA from one overflow to the
next. -/

namespace Sys2Proof.Machine

namespace Timer

variable (p : Params) (t : Timer)

/-! What each part of a cycle leaves. -/

@[simp] theorem tickDiv_tima : (t.tickDiv p).tima = t.tima := by unfold tickDiv; split <;> rfl
@[simp] theorem tickDiv_tma : (t.tickDiv p).tma = t.tma := by unfold tickDiv; split <;> rfl
@[simp] theorem tickDiv_tac : (t.tickDiv p).tac = t.tac := by unfold tickDiv; split <;> rfl

@[simp] theorem tickReload_div : t.tickReload.div = t.div := by unfold tickReload; split_ifs <;> rfl
@[simp] theorem tickReload_tma : t.tickReload.tma = t.tma := by unfold tickReload; split_ifs <;> rfl
@[simp] theorem tickReload_tac : t.tickReload.tac = t.tac := by unfold tickReload; split_ifs <;> rfl

@[simp] theorem countTima_div : (t.countTima p).div = t.div := by unfold countTima; split <;> rfl
@[simp] theorem countTima_tma : (t.countTima p).tma = t.tma := by unfold countTima; split <;> rfl
@[simp] theorem countTima_tac : (t.countTima p).tac = t.tac := by unfold countTima; split <;> rfl

@[simp] theorem tickTima_div : (t.tickTima p).div = t.div := by unfold tickTima; split_ifs <;> simp
@[simp] theorem tickTima_tma : (t.tickTima p).tma = t.tma := by unfold tickTima; split_ifs <;> simp
@[simp] theorem tickTima_tac : (t.tickTima p).tac = t.tac := by unfold tickTima; split_ifs <;> simp

@[simp] theorem tick_tma : (t.tick p).tma = t.tma := by simp [tick]
@[simp] theorem tick_tac : (t.tick p).tac = t.tac := by simp [tick]

/-- The window's part of a cycle takes one cycle off it (60_exceptions R364). -/
theorem tickReload_reloadPending : t.tickReload.reloadPending = t.reloadPending - 1 := by
  unfold tickReload
  split_ifs with h0 h1
  · rw [h0]
  · rw [h1]
  · rfl

/-- TIMA takes TMA in the window's last cycle (60_exceptions R364). -/
theorem tickReload_tima : t.tickReload.tima = if t.reloadPending = 1 then t.tma else t.tima := by
  unfold tickReload
  split_ifs with h0 h1
  · exact absurd (h0.symm.trans h1) (by decide)
  · rfl
  · rfl
  · rfl

/-- A cycle of the divider, whatever the rest of the timer holds (60_exceptions R361). -/
theorem tick_divider : (t.tick p).divSub = (t.tickDiv p).divSub ∧ (t.tick p).div = (t.tickDiv p).div := by
  simp [tick]

/-- A cycle of the counter with the enable set, before its period ends (60_exceptions R362). -/
theorem tickTima_within (hen : t.enabled = true) (h : t.timaSub + 1 < t.period) :
    t.tickTima p = { t with timaSub := t.timaSub + 1 } := by
  unfold tickTima
  rw [if_pos hen, if_neg (by omega)]

/-- The cycle that ends a period counts TIMA (60_exceptions R362). -/
theorem tickTima_ends (hen : t.enabled = true) (h : t.period ≤ t.timaSub + 1) :
    t.tickTima p = countTima p { t with timaSub := 0 } := by
  unfold tickTima
  rw [if_pos hen, if_pos h]

/-- TIMA counts on (60_exceptions R362). -/
theorem countTima_of_ne (h : t.tima ≠ 0xFF) : t.countTima p = { t with tima := t.tima + 1 } := if_neg h

/-- TIMA overflows and the window of the reload begins (60_exceptions R363). -/
theorem countTima_of_eq (h : t.tima = 0xFF) :
    t.countTima p = { t with tima := 0, reloadPending := p.timaReloadDelay } := if_pos h

variable {t} {u : Timer}

theorem enabled_congr (h : u.tac = t.tac) (hen : t.tac.getLsbD 2 = true) : u.enabled = true := by
  rw [enabled, h, hen]

theorem period_congr (h : u.tac = t.tac) : u.period = t.period := by
  rw [period, h, period]

/-- The four periods (10_state R35). -/
theorem period_eq_getD (t : Timer) : t.period = [1024, 16, 64, 256].getD (t.tac.toNat % 4) 0 := by
  have h : ∀ tac : BitVec 3, timaPeriod (tac.extractLsb' 0 2) = [1024, 16, 64, 256].getD (tac.toNat % 4) 0 := by
    decide
  exact h t.tac

/-- The shortest period is longer than the reload window (10_state R35). -/
theorem period_ge (t : Timer) : 16 ≤ t.period := by
  unfold period timaPeriod
  split_ifs <;> decide

end Timer

variable {s t : State}

/-! Many cycles. -/

/-- One more cycle after n cycles. -/
theorem timerAdvance_succ (n : Nat) (s : State) : s.timerAdvance (n + 1) = (s.timerAdvance n).timerTick := by
  induction n generalizing s with
  | zero => rfl
  | succ n ih => exact ih s.timerTick

@[simp] theorem timerTick_timer (s : State) : s.timerTick.timer = s.timer.tick s.cfg.params := rfl

/-- A cycle requests the timer interrupt exactly where it ends a reload window (60_exceptions R360, R364). -/
theorem timerTick_ifReg (s : State) :
    s.timerTick.ifReg = if s.timer.reloadsNow then s.ifReg ||| 0b00100 else s.ifReg := by
  unfold State.timerTick
  dsimp only
  split_ifs <;> rfl

@[simp] theorem timerAdvance_cfg (n : Nat) (s : State) : (s.timerAdvance n).cfg = s.cfg := by
  rw [timerAdvance_eq]

/-! The divider. -/

/-- A counter below its period counts on as the quotient and the remainder of the cycles do. -/
theorem succ_div_mod {x period : Nat} (hp : 0 < period) :
    (x % period + 1 = period → (x + 1) / period = x / period + 1 ∧ (x + 1) % period = 0) ∧
    (x % period + 1 ≠ period → (x + 1) / period = x / period ∧ (x + 1) % period = x % period + 1) := by
  have hx := Nat.div_add_mod x period
  have hlt := Nat.mod_lt x hp
  refine ⟨fun h => (Nat.div_mod_unique hp).2 ⟨?_, hp⟩, fun h => (Nat.div_mod_unique hp).2 ⟨?_, by omega⟩⟩
  · rw [Nat.mul_add, Nat.mul_one]
    omega
  · omega

/-- The divider after n cycles: the whole periods among DIV_SUB + n, and what is left of them (60_exceptions R361). -/
theorem divider_timerAdvance (hsub : s.timer.divSub < s.cfg.params.divPeriod) (n : Nat) :
    (s.timerAdvance n).timer.div = s.timer.div + BitVec.ofNat 8 ((s.timer.divSub + n) / s.cfg.params.divPeriod) ∧
      (s.timerAdvance n).timer.divSub = (s.timer.divSub + n) % s.cfg.params.divPeriod := by
  induction n with
  | zero => simp [State.timerAdvance, Nat.div_eq_of_lt hsub, Nat.mod_eq_of_lt hsub]
  | succ n ih =>
    obtain ⟨hdiv, hsub'⟩ := ih
    obtain ⟨hends, hwithin⟩ := succ_div_mod (x := s.timer.divSub + n) (Nat.zero_lt_of_lt hsub)
    rw [timerAdvance_succ, timerTick_timer, timerAdvance_cfg, (Timer.tick_divider _ _).1, (Timer.tick_divider _ _).2,
      Timer.tickDiv, hsub', ← Nat.add_assoc]
    split_ifs with h
    · rw [(hends h).1, (hends h).2, BitVec.ofNat_add, ← BitVec.add_assoc, ← hdiv]
      exact ⟨rfl, rfl⟩
    · rw [(hwithin h).1, (hwithin h).2, ← hdiv]
      exact ⟨rfl, rfl⟩

/-! The counter off. -/

/-- The counter is off, no reload is in flight, and TIMA and TIMA_SUB are those of `s`. -/
structure CounterIdle (s t : State) : Prop where
  tac : t.timer.tac = s.timer.tac
  reload : t.timer.reloadPending = 0
  ifReg : t.ifReg = s.ifReg
  tima : t.timer.tima = s.timer.tima
  timaSub : t.timer.timaSub = s.timer.timaSub

/-- A cycle without the enable and without a reload in flight counts the divider alone (60_exceptions R360). -/
theorem CounterIdle.timerTick (hoff : s.timer.tac.getLsbD 2 = false) (h : CounterIdle s t) :
    CounterIdle s t.timerTick := by
  obtain ⟨htac, hreload, hif, htima, hsub⟩ := h
  have htick : t.timer.tick t.cfg.params = t.timer.tickDiv t.cfg.params := by
    have hw : (t.timer.tickDiv t.cfg.params).tickReload = t.timer.tickDiv t.cfg.params := by
      rw [Timer.tickReload, Timer.tickDiv_reloadPending, if_pos hreload]
    rw [Timer.tick, hw, Timer.tickTima, Timer.enabled, Timer.tickDiv_tac, htac, hoff]
    rfl
  constructor
  · rw [timerTick_timer, htick, Timer.tickDiv_tac, htac]
  · rw [timerTick_timer, htick, Timer.tickDiv_reloadPending, hreload]
  · rw [timerTick_ifReg, Timer.reloadsNow, hreload]
    exact hif
  · rw [timerTick_timer, htick, Timer.tickDiv_tima, htima]
  · rw [timerTick_timer, htick, Timer.tickDiv_timaSub, hsub]

theorem counterIdle_timerAdvance (hoff : s.timer.tac.getLsbD 2 = false) (h : s.timer.reloadPending = 0) (n : Nat) :
    CounterIdle s (s.timerAdvance n) := by
  induction n with
  | zero => exact ⟨rfl, h, rfl, rfl, rfl⟩
  | succ n ih =>
    rw [timerAdvance_succ]
    exact ih.timerTick hoff

/-- Settles O49: the divider by induction on the cycles; with the counter off no cycle does more. -/
theorem dividerLaw : Obligations.DividerLaw := by
  intro s n _ hsub t
  obtain ⟨hdiv, hsub'⟩ := divider_timerAdvance hsub n
  refine ⟨hdiv, hsub', fun hoff hreload => ?_⟩
  obtain ⟨-, -, hif, htima, htimaSub⟩ := counterIdle_timerAdvance hoff hreload n
  exact ⟨hif, htima, htimaSub⟩

/-! From an overflow to the next (60_exceptions R370). -/

/-- The counter of `t` is j cycles past an overflow of the counter of `s`, with 4 cycles' reload delay, and short of the
next: the window's cycles left, TIMA 0 until the reload and TMA and the whole periods after it. -/
structure PastOverflow (s : State) (j : Nat) (t : State) : Prop where
  tac : t.timer.tac = s.timer.tac
  tma : t.timer.tma = s.timer.tma
  timaSub : t.timer.timaSub = j % s.timer.period
  reload : t.timer.reloadPending = 4 - j
  tima : t.timer.tima = if j < 4 then 0 else BitVec.ofNat 8 (s.timer.tma.toNat + j / s.timer.period)

/-- What the parts of the next cycle before the counter's leave. -/
theorem PastOverflow.tickReload {j : Nat} (h : PastOverflow s j t) :
    let u := (t.timer.tickDiv t.cfg.params).tickReload
    u.tac = s.timer.tac ∧ u.tma = s.timer.tma ∧ u.timaSub = j % s.timer.period ∧ u.reloadPending = 4 - (j + 1) ∧
      u.tima = if j < 3 then 0 else BitVec.ofNat 8 (s.timer.tma.toNat + j / s.timer.period) := by
  obtain ⟨htac, htma, hsub, hreload, htima⟩ := h
  refine ⟨by simpa, by simpa, by simpa, ?_, ?_⟩
  · rw [Timer.tickReload_reloadPending, Timer.tickDiv_reloadPending, hreload]
    omega
  · rw [Timer.tickReload_tima, Timer.tickDiv_reloadPending, Timer.tickDiv_tma, Timer.tickDiv_tima, hreload, htima, htma]
    by_cases h3 : j = 3
    · subst h3
      have hz : 3 / s.timer.period = 0 := Nat.div_eq_of_lt (lt_of_lt_of_le (by decide) s.timer.period_ge)
      simp [hz]
    · rw [if_neg (by omega)]
      exact if_congr (by omega) rfl rfl

/-- A count below 255 is not TIMA's last. -/
theorem ofNat_ne_last {n : Nat} (h : n < 255) : BitVec.ofNat 8 n ≠ 0xFF := by
  bv_omega

/-- The next cycle short of the next overflow counts TIMA_SUB, or TIMA where a period ends (60_exceptions R362). -/
theorem PastOverflow.timerTick {j : Nat} (hen : s.timer.tac.getLsbD 2 = true)
    (hj : j + 1 < (256 - s.timer.tma.toNat) * s.timer.period) (h : PastOverflow s j t) :
    PastOverflow s (j + 1) t.timerTick := by
  obtain ⟨htac, htma, hsub, hreload, htima⟩ := h.tickReload
  have hen' := Timer.enabled_congr htac hen
  have hp := s.timer.period_ge
  obtain ⟨hends, hwithin⟩ := succ_div_mod (x := j) (Nat.zero_lt_of_lt hp)
  have hlt := Nat.mod_lt j (Nat.zero_lt_of_lt hp)
  by_cases hend : j % s.timer.period + 1 = s.timer.period
  · have hcount : s.timer.tma.toNat + j / s.timer.period < 255 := by
      have := (hends hend).1 ▸ Nat.div_lt_of_lt_mul (Nat.mul_comm _ _ ▸ hj)
      omega
    have hj3 : ¬ j < 3 := by
      have := Nat.mod_le j s.timer.period
      omega
    rw [if_neg hj3] at htima
    have htick := Timer.tickTima_ends t.cfg.params _ hen' (by rw [Timer.period_congr htac, hsub]; exact hend.ge)
    rw [Timer.countTima_of_ne _ _ (htima ▸ ofNat_ne_last hcount)] at htick
    constructor <;> rw [timerTick_timer, Timer.tick, htick]
    · exact htac
    · exact htma
    · exact (hends hend).2.symm
    · exact hreload
    · rw [htima, (hends hend).1, if_neg (by omega), ← Nat.add_assoc, BitVec.ofNat_add _ 1]
      rfl
  · have htick := Timer.tickTima_within t.cfg.params _ hen' (by rw [Timer.period_congr htac, hsub]; omega)
    constructor <;> rw [timerTick_timer, Timer.tick, htick]
    · exact htac
    · exact htma
    · rw [hsub, (hwithin hend).2]
    · exact hreload
    · rw [htima, (hwithin hend).1]
      exact if_congr (by omega) rfl rfl

/-- The cycle before the next overflow makes it, and leaves the counter as it was after the first (60_exceptions
R363). -/
theorem PastOverflow.overflow {j : Nat} (hen : s.timer.tac.getLsbD 2 = true) (hdelay : t.cfg.params.timaReloadDelay = 4)
    (hj : j + 1 = (256 - s.timer.tma.toNat) * s.timer.period) (h : PastOverflow s j t) :
    PastOverflow s 0 t.timerTick := by
  obtain ⟨htac, htma, hsub, hreload, htima⟩ := h.tickReload
  have hp := s.timer.period_ge
  have hm := s.timer.tma.isLt
  obtain ⟨hquot, hrem⟩ : j / s.timer.period = 255 - s.timer.tma.toNat ∧ j % s.timer.period = s.timer.period - 1 := by
    refine (Nat.div_mod_unique (Nat.zero_lt_of_lt hp)).2 ⟨?_, by omega⟩
    rw [show 256 - s.timer.tma.toNat = 255 - s.timer.tma.toNat + 1 by omega, Nat.add_mul, Nat.mul_comm] at hj
    omega
  have hj3 : ¬ j < 3 := by
    have := Nat.mod_le j s.timer.period
    omega
  rw [if_neg hj3, hquot] at htima
  have htick := Timer.tickTima_ends t.cfg.params _ (Timer.enabled_congr htac hen)
    (by rw [Timer.period_congr htac, hsub]; omega)
  rw [Timer.countTima_of_eq _ _ (by rw [htima]; bv_omega)] at htick
  constructor <;> rw [timerTick_timer, Timer.tick, htick]
  · exact htac
  · exact htma
  · exact (Nat.zero_mod _).symm
  · exact hdelay
  · rfl

section Overflow

variable (hen : s.timer.tac.getLsbD 2 = true) (h0 : PastOverflow s 0 s)
include hen h0

/-- Every cycle from the overflow to the one before the next (60_exceptions R370). -/
theorem pastOverflow_timerAdvance (j : Nat) (hj : j < (256 - s.timer.tma.toNat) * s.timer.period) :
    PastOverflow s j (s.timerAdvance j) := by
  induction j with
  | zero => exact h0
  | succ j ih =>
    rw [timerAdvance_succ]
    exact (ih (by omega)).timerTick hen hj

/-- A reload comes with the window's last cycle (60_exceptions R364). -/
theorem reloadsNow_iff (j : Nat) (hj : j < (256 - s.timer.tma.toNat) * s.timer.period) :
    (s.timerAdvance j).timer.reloadsNow = true ↔ j = 3 := by
  rw [Timer.reloadsNow, (pastOverflow_timerAdvance hen h0 j hj).reload, beq_iff_eq]
  omega

/-- The one request on the way, in the fourth cycle (60_exceptions R364). -/
theorem ifReg_timerAdvance (j : Nat) (hj : j ≤ (256 - s.timer.tma.toNat) * s.timer.period) :
    (s.timerAdvance j).ifReg = if j < 4 then s.ifReg else s.ifReg ||| 0b00100 := by
  induction j with
  | zero => rfl
  | succ j ih =>
    rw [timerAdvance_succ, timerTick_ifReg, ih (by omega), if_congr (reloadsNow_iff hen h0 j hj) rfl rfl]
    rcases Nat.lt_trichotomy j 3 with h | h | h
    · rw [if_neg (by omega), if_pos (by omega), if_pos (by omega)]
    · rw [if_pos h, if_pos (by omega), if_neg (by omega)]
    · rw [if_neg (by omega), if_neg (by omega), if_neg (by omega)]

end Overflow

/-- Settles O50: the state of the counter j cycles past an overflow, by induction on j, and the overflow that its last
cycle makes. -/
theorem timerOverflowLaw : Obligations.TimerOverflowLaw := by
  intro s hen htima hsub hreload hdelay
  rw [← Timer.period_eq_getD]
  intro period m total
  have h0 : PastOverflow s 0 s := ⟨rfl, rfl, hsub.trans (Nat.zero_mod _).symm, hreload, htima⟩
  have hpast := pastOverflow_timerAdvance hen h0
  have hlast : PastOverflow s 0 (s.timerAdvance total) := by
    have hpos : 0 < total := Nat.mul_pos (Nat.sub_pos_of_lt s.timer.tma.isLt) (Nat.zero_lt_of_lt s.timer.period_ge)
    obtain ⟨j, hj⟩ := Nat.exists_eq_add_one_of_ne_zero hpos.ne'
    rw [hj, timerAdvance_succ]
    exact (hpast j hj.ge).overflow hen (by rw [timerAdvance_cfg, hdelay]) hj.symm
  exact ⟨fun j hj => ⟨(hpast j hj).reload, (hpast j hj).tima⟩, hlast.tima, hlast.timaSub.trans (Nat.zero_mod _),
    hlast.reload, hlast.tma, ifReg_timerAdvance hen h0, reloadsNow_iff hen h0⟩

end Sys2Proof.Machine
end

section
/-! PROOFS. One cycle of the PPU (60_exceptions R380 to R386): where it moves, which mode it enters, and what it
requests. -/

namespace Sys2Proof.Machine

variable {s : State}

/-! The requests' bits (60_exceptions R333). -/

/-- A request sets its bit of IF and keeps the others. -/
theorem getLsbD_request (x : BitVec 5) (k : Irq) (j : Nat) :
    (x ||| 1#5 <<< k.bit).getLsbD j = (x.getLsbD j || j == k.bit) := by
  have hbits : ∀ j < 5, (1#5 <<< k.bit).getLsbD j = (j == k.bit) := by cases k <;> decide
  rw [BitVec.getLsbD_or]
  by_cases hj : j < 5
  · rw [hbits j hj]
  · have hk := k.bit_lt
    rw [BitVec.getLsbD_of_ge (1#5 <<< k.bit) _ (Nat.le_of_not_lt hj), beq_eq_false_iff_ne.2 (by omega)]

/-! The parts of a cycle. -/

/-- A dot moves the position and starts the window's count over at a new frame; the PPU keeps everything else. -/
theorem nextDot_eq (p : Ppu) :
    p.nextDot = { p with dot := p.nextDot.dot, ly := p.nextDot.ly, winLine := p.nextDot.winLine } := by
  rcases nextDot_cases p with ⟨-, e⟩ | ⟨-, -, e⟩ | ⟨-, e⟩ <;> rw [e]

/-- The mode change of a cycle leaves the PPU in the mode of its place; beside it the render and the publication of the
frame act on the buffers, the window's count and the event alone (60_exceptions R380, R383, R388). -/
theorem updateMode_ppu (s : State) : ∃ live frame win event, s.updateMode.ppu = { s.ppu with
    mode := modeAt s.cfg.params s.ppu.ly s.ppu.dot
    fbLive := live, fbFrame := frame, winLine := win, vblankEvent := event } := by
  unfold State.updateMode
  dsimp only
  split_ifs with hm
  · exact ⟨_, _, _, _, by rw [hm]⟩
  · cases modeAt s.cfg.params s.ppu.ly s.ppu.dot <;> exact ⟨_, _, _, _, rfl⟩

/-- The mode change requests VBlank at most (60_exceptions R383). -/
theorem updateMode_ifReg (s : State) :
    s.updateMode.ifReg = s.ifReg ∨ s.updateMode.ifReg = (s.request .vblank).ifReg := by
  unfold State.updateMode
  dsimp only
  split_ifs
  · exact .inl rfl
  · cases modeAt s.cfg.params s.ppu.ly s.ppu.dot
    case vblank => exact .inr rfl
    all_goals exact .inl rfl

/-- The STAT line's request is that of its rising edge (60_exceptions R386). -/
theorem updateStatLine_ifReg (s : State) : s.updateStatLine.ifReg =
    if s.ppu.statLevel && !s.ppu.statLine then s.ifReg ||| 0b00010 else s.ifReg := by
  unfold State.updateStatLine
  dsimp only
  split_ifs <;> rfl

theorem ppuTick_of_on (hon : s.ppu.lcdOn = true) :
    s.ppuTick = (State.updateMode { s with ppu := s.ppu.nextDot }).updateStatLine :=
  if_pos hon

theorem ppuTick_of_off (hoff : s.ppu.lcdOn = false) : s.ppuTick = s :=
  if_neg (by simp [hoff])

/-! A whole cycle. -/

/-- A cycle with the LCD on moves one dot on, leaves the mode of that place, and the STAT line at its level
(60_exceptions R380, R386). -/
theorem ppuTick_ppu (hon : s.ppu.lcdOn = true) : ∃ live frame win event, s.ppuTick.ppu = { s.ppu with
    dot := s.ppu.nextDot.dot
    ly := s.ppu.nextDot.ly
    mode := modeAt s.cfg.params s.ppu.nextDot.ly s.ppu.nextDot.dot
    statLine := s.ppuTick.ppu.statLevel
    fbLive := live, fbFrame := frame, winLine := win, vblankEvent := event } := by
  obtain ⟨live, frame, win, event, e⟩ := updateMode_ppu { s with ppu := s.ppu.nextDot }
  refine ⟨live, frame, win, event, ?_⟩
  rw [ppuTick_of_on hon, updateStatLine_ppu, e, nextDot_eq]
  rfl

/-- The level of the STAT line, condition by condition (60_exceptions R386). -/
theorem statLevel_iff (p : Ppu) : p.statLevel = true ↔
    (p.statSel.getLsbD 3 = true ∧ p.ly = p.lyc) ∨ (p.statSel.getLsbD 0 = true ∧ p.mode = .hblank) ∨
      (p.statSel.getLsbD 1 = true ∧ p.mode = .vblank) ∨ (p.statSel.getLsbD 2 = true ∧ p.mode = .oamScan) := by
  simp [Ppu.statLevel, Ppu.coincidence, or_assoc]

/-- The cycle that enters line 144 requests VBlank, publishes the live buffer and raises the event (60_exceptions
R383). -/
theorem ppuTick_enters_vblank (hon : s.ppu.lcdOn = true) (hly : s.ppu.ly = 143) (hdot : s.ppu.dot = 455)
    (hmode : s.ppu.mode ≠ .vblank) : s.ppuTick = State.updateStatLine { s with
      ifReg := s.ifReg ||| 0b00001
      ppu := { s.ppu with
        ly := 144, dot := 0, mode := .vblank, fbFrame := s.ppu.fbLive, vblankEvent := true } } := by
  have hnext : s.ppu.nextDot = { s.ppu with dot := 0, ly := 144 } := by
    rw [Ppu.nextDot, hdot, hly]
    rfl
  have hmodeAt : modeAt s.cfg.params 144 0 = .vblank := rfl
  rw [ppuTick_of_on hon, hnext, State.updateMode]
  dsimp only
  rw [hmodeAt, if_neg hmode.symm]
  rfl

/-! What a cycle requests. -/

theorem getLsbD_updateStatLine_ifReg (s : State) (j : Nat) : s.updateStatLine.ifReg.getLsbD j =
    (s.ifReg.getLsbD j || (j == 1 && (s.ppu.statLevel && !s.ppu.statLine))) := by
  have hbit : (s.ifReg ||| 0b00010).getLsbD j = (s.ifReg.getLsbD j || j == 1) := getLsbD_request s.ifReg .stat j
  rw [updateStatLine_ifReg]
  cases s.ppu.statLevel && !s.ppu.statLine
  · simp
  · simpa using hbit

/-- The mode change keeps every request but VBlank's, and clears none (60_exceptions R383). -/
theorem getLsbD_updateMode_ifReg (s : State) (j : Nat) :
    (j ≠ 0 → s.updateMode.ifReg.getLsbD j = s.ifReg.getLsbD j) ∧
      (s.ifReg.getLsbD j = true → s.updateMode.ifReg.getLsbD j = true) := by
  rcases updateMode_ifReg s with e | e <;> rw [e]
  · exact ⟨fun _ => rfl, id⟩
  · rw [State.request_ifReg, getLsbD_request]
    exact ⟨fun hj => by rw [beq_eq_false_iff_ne.2 (show j ≠ Irq.vblank.bit from hj), Bool.or_false],
      fun h => by rw [h, Bool.true_or]⟩

/-- A cycle with the LCD on requests STAT on the rising edge of the STAT line, VBlank at most beside it, and clears no
request (60_exceptions R383, R386). -/
theorem getLsbD_ppuTick_ifReg (hon : s.ppu.lcdOn = true) (j : Nat) :
    (j ≠ 0 → s.ppuTick.ifReg.getLsbD j =
      (s.ifReg.getLsbD j || (j == 1 && (s.ppuTick.ppu.statLine && !s.ppu.statLine)))) ∧
      (s.ifReg.getLsbD j = true → s.ppuTick.ifReg.getLsbD j = true) := by
  obtain ⟨live, frame, win, event, e⟩ := updateMode_ppu { s with ppu := s.ppu.nextDot }
  obtain ⟨hother, hkeep⟩ := getLsbD_updateMode_ifReg { s with ppu := s.ppu.nextDot } j
  have hline : (State.updateMode { s with ppu := s.ppu.nextDot }).ppu.statLine = s.ppu.statLine := by
    rw [e, nextDot_eq]
  rw [ppuTick_of_on hon, getLsbD_updateStatLine_ifReg, updateStatLine_ppu, hline]
  exact ⟨fun hj => by rw [hother hj], fun h => by rw [hkeep h, Bool.true_or]⟩

/-- Settles O52: the cycle into line 144 as a whole, and in every cycle the STAT line's level and its rising edge. -/
theorem vBlankAndStatRequests : Obligations.VBlankAndStatRequests := by
  intro s hon t
  obtain ⟨live, frame, win, event, e⟩ := ppuTick_ppu hon
  refine ⟨fun hly hdot hmode => ?_, ?_, ?_, fun j hj => ?_⟩
  · have ht : t = _ := ppuTick_enters_vblank hon hly hdot hmode
    have hbit : (s.ifReg ||| 0b00001).getLsbD 0 = true := (getLsbD_request s.ifReg .vblank 0).trans (Bool.or_true _)
    rw [ht, getLsbD_updateStatLine_ifReg, hbit, updateStatLine_ppu]
    exact ⟨rfl, rfl, rfl, rfl, rfl, rfl, rfl⟩
  · have hlevel : t.ppu.statLine = t.ppu.statLevel := congrArg Ppu.statLine e
    rw [hlevel]
    exact statLevel_iff t.ppu
  · rw [(getLsbD_ppuTick_ifReg hon 1).1 (by decide)]
    simp [t, and_comm]
  · rw [(getLsbD_ppuTick_ifReg hon j).1 (by omega), beq_eq_false_iff_ne.2 (by omega), Bool.false_and, Bool.or_false]

end Sys2Proof.Machine
end

section
/-! PROOFS. The PPU's place in the frame over many cycles (60_exceptions R384). -/

namespace Sys2Proof.Machine

variable {s : State}

/-- The dots from the start of the frame to the PPU's place (00_scope R7). -/
def Ppu.place (p : Ppu) : Nat := p.ly.toNat * 456 + p.dot

/-- The LCD is on and the PPU is at a place of the frame, in its mode (60_exceptions R380). -/
structure InFrame (s : State) : Prop where
  lcdOn : s.ppu.lcdOn = true
  ly : s.ppu.ly.toNat < 154
  dot : s.ppu.dot < 456
  mode : s.ppu.mode = modeAt s.cfg.params s.ppu.ly s.ppu.dot

/-- A dot is one place further in the frame of 70224 (60_exceptions R380). -/
theorem nextDot_place {p : Ppu} (hly : p.ly.toNat < 154) (hdot : p.dot < 456) :
    p.nextDot.ly.toNat < 154 ∧ p.nextDot.dot < 456 ∧ p.nextDot.place = (p.place + 1) % 70224 := by
  unfold Ppu.nextDot Ppu.place lineCycles frameLines
  split_ifs with hend hlast
  · have : p.ly.toNat = 153 := by bv_omega
    have hzero : (0 : Byte).toNat = 0 := rfl
    dsimp only
    rw [hzero]
    omega
  · have : (p.ly + 1).toNat = p.ly.toNat + 1 ∧ p.ly.toNat ≠ 153 := by constructor <;> bv_omega
    dsimp only
    omega
  · dsimp only
    omega

@[simp] theorem ppuTick_cfg (s : State) : s.ppuTick.cfg = s.cfg := by rw [ppuTick_eq]

@[simp] theorem ppuAdvance_cfg (n : Nat) (s : State) : (s.ppuAdvance n).cfg = s.cfg := by rw [ppuAdvance_eq]

theorem InFrame.ppuTick (h : InFrame s) :
    InFrame s.ppuTick ∧ s.ppuTick.ppu.place = (s.ppu.place + 1) % 70224 := by
  obtain ⟨live, frame, win, event, e⟩ := ppuTick_ppu h.lcdOn
  obtain ⟨hly, hdot, hplace⟩ := nextDot_place h.ly h.dot
  refine ⟨⟨?_, ?_, ?_, ?_⟩, ?_⟩
  · rw [e]; exact h.lcdOn
  · rw [e]; exact hly
  · rw [e]; exact hdot
  · rw [e, ppuTick_cfg]
  · rw [e]; exact hplace

theorem InFrame.ppuAdvance (n : Nat) (h : InFrame s) :
    InFrame (s.ppuAdvance n) ∧ (s.ppuAdvance n).ppu.place = (s.ppu.place + n) % 70224 := by
  induction n generalizing s with
  | zero =>
    have hplace : s.ppu.place < 70224 := by
      have hly := h.ly
      have hdot := h.dot
      unfold Ppu.place
      omega
    rw [State.ppuAdvance, Nat.add_zero, Nat.mod_eq_of_lt hplace]
    exact ⟨h, rfl⟩
  | succ n ih =>
    obtain ⟨hnext, hplace⟩ := h.ppuTick
    obtain ⟨hthen, hplace'⟩ := ih hnext
    refine ⟨hthen, hplace'.trans ?_⟩
    rw [hplace]
    omega

/-- Settles O51: the place counts the cycles modulo the frame, and line, dot and mode are those of the place. -/
theorem ppuPositionLaw : Obligations.PpuPositionLaw := by
  intro s n hon hly hdot hxfer hmode t place
  obtain ⟨hframe, hplace⟩ := InFrame.ppuAdvance n ⟨hon, hly, hdot, hmode⟩
  have hp : t.ppu.ly.toNat * 456 + t.ppu.dot = place := hplace
  have hlt : t.ppu.dot < 456 := hframe.dot
  have hline : t.ppu.ly.toNat = place / 456 := by omega
  have hcol : t.ppu.dot = place % 456 := by omega
  refine ⟨hline, hcol, hframe.mode.trans ?_⟩
  rw [ppuAdvance_cfg, modeAt, hxfer, hline, hcol]
  rfl

end Sys2Proof.Machine
end

section
/-! PROOFS. The PPU's writes that do more than store: LCDC's switch, and the re-evaluation of the STAT line
(60_exceptions R381, R382, R387). -/

namespace Sys2Proof.Machine

variable {s : State} {v : Byte}

theorem writeLcdc_switches_off (hon : s.ppu.lcdOn = true) (hv : v.getLsbD 7 = false) : s.writeLcdc v =
    { s with ppu := { s.ppu with lcdc := v, ly := 0, dot := 0, mode := .hblank, statLine := false } } := by
  have hb : bitOf v 7 = false := hv
  rw [State.writeLcdc, hon, hb]

theorem writeLcdc_switches_on (hoff : s.ppu.lcdOn = false) (hv : v.getLsbD 7 = true) : s.writeLcdc v =
    State.updateStatLine { s with
      ppu := { s.ppu with lcdc := v, ly := 0, dot := 0, mode := .oamScan, winLine := 0 } } := by
  have hb : bitOf v 7 = true := hv
  rw [State.writeLcdc, hoff, hb]

theorem writeLcdc_stores (h : s.ppu.lcdOn = v.getLsbD 7) :
    s.writeLcdc v = { s with ppu := { s.ppu with lcdc := v } } := by
  have hb : bitOf v 7 = s.ppu.lcdOn := h.symm
  rw [State.writeLcdc, hb]
  cases s.ppu.lcdOn <;> rfl

/-- The re-evaluation of the STAT line: exactly while the LCD is on (60_exceptions R387). -/
theorem restat_spec (s : State) :
    (s.ppu.lcdOn = true → s.restat.ppu.statLine = s.restat.ppu.statLevel ∧
      s.restat.ifReg = if s.restat.ppu.statLevel && !s.ppu.statLine then s.ifReg ||| 0b00010 else s.ifReg) ∧
    (s.ppu.lcdOn = false → s.restat.ppu.statLine = s.ppu.statLine ∧ s.restat.ifReg = s.ifReg) := by
  refine ⟨fun hon => ?_, fun hoff => ?_⟩
  · rw [State.restat, if_pos hon, updateStatLine_ppu, updateStatLine_ifReg]
    exact ⟨rfl, rfl⟩
  · rw [State.restat, if_neg (by simp [hoff])]
    exact ⟨rfl, rfl⟩

/-- Settles O53: LCDC by the switch it makes; STAT and LYC are stored, then R387. -/
theorem lcdSwitchAndStatWrites : Obligations.LcdSwitchAndStatWrites := by
  intro s v t
  have ht : t = s.writeLcdc v := memWrite_io s 0x40 v (by decide)
  refine ⟨ppuTick_of_off, fun hon hv => ht.trans (writeLcdc_switches_off hon hv), fun hoff hv => ?_,
    fun h => ht.trans (writeLcdc_stores h), fun a ha => ?_⟩
  · rw [ht, writeLcdc_switches_on hoff hv, updateStatLine_ifReg, updateStatLine_ppu]
    exact ⟨rfl, rfl⟩
  · have hstat : s.memWrite 0xFF41 v = s.writeStat v := memWrite_io s 0x41 v (by decide)
    have hlyc : s.memWrite 0xFF45 v = s.writeLyc v := memWrite_io s 0x45 v (by decide)
    rcases List.mem_pair.1 ha with rfl | rfl
    · rw [hstat]
      exact restat_spec { s with ppu := { s.ppu with statSel := v.extractLsb' 3 4 } }
    · rw [hlyc]
      exact restat_spec { s with ppu := { s.ppu with lyc := v } }

end Sys2Proof.Machine
end

section
/-! PROOFS. The cycle that starts pixel transfer (60_exceptions R388 to R393): the row it writes and what each of its
pixels is. -/

namespace Sys2Proof.Machine

variable {s : State}

/-- At most ten objects are selected: they are the first ten of those that cover the line (60_exceptions R390). -/
theorem length_objSelected_le (s : State) (ly : Nat) : ((List.range 40).filter (s.objSelected ly)).length ≤ 10 := by
  have hsub : (List.range 40).filter (s.objSelected ly) ⊆ ((List.range 40).filter (s.objOnLine ly)).take 10 := by
    intro i hi
    have hsel := (List.mem_filter.1 hi).2
    simp only [State.objSelected, Bool.and_eq_true, decide_eq_true_eq] at hsel
    obtain ⟨⟨hlt, hon⟩, hfew⟩ := hsel
    exact (mem_take_filter_range _ _ _ _).2 ⟨hlt, hon, hfew⟩
  exact ((List.nodup_range.filter _).subperm hsub).length_le.trans (List.length_take_le _ _)

/-- The cells of the live buffer after the line `ly` is rendered: its row takes the line's shades, every other row stays
(60_exceptions R388, R393). -/
theorem read_fbLive_renderLine (s : State) {ly : Nat} (hly : ly < 144) (hw : s.ppu.fbLive.wfIn 0 23040 = true)
    (y : Nat) {x : Nat} (hx : x < 160) :
    (s.ppu.renderLine s.mem.vram s.mem.oam ly).fbLive.read (y * 160 + x) =
      if y = ly then pixelShade s.ppu s.mem.vram (byPriority (selectObjects s.ppu s.mem.oam ly)) ly x
      else s.ppu.fbLive.read (y * 160 + x) := by
  rw [renderLine_fbLive, read_writeRow _ _ _ _ _ _ hw (by unfold lineWidth; omega), lineWidth]
  by_cases hy : y = ly
  · rw [if_pos hy, if_pos (by omega), hy, Nat.add_sub_cancel_left]
  · rw [if_neg hy, if_neg (by omega)]

/-- Settles O54: the cycle renders the line, whose pixels are the winning object's or the colour's behind it. -/
theorem renderWritesOneRow : Obligations.RenderWritesOneRow := by
  intro s hon hly hdot hmode hxfer hw
  obtain ⟨f, b, ht⟩ := ppuTick_render s hon hly hdot hmode hxfer
  rw [ht]
  dsimp only
  refine ⟨rfl, rfl, rfl, fun y x hx hy => ?_, fun x hx => ?_, length_objSelected_le s _, fun x hx hbg hover => ?_,
    fun hnone => ?_⟩
  · rw [read_fbLive_renderLine s hly hw y hx, if_neg hy]
  · rw [read_fbLive_renderLine s hly hw _ hx, if_pos rfl]
    exact ⟨pixelShade_back s _ x, pixelShade_object s _ x⟩
  · exact (renderLine_winLine _ _ _ _).trans (if_pos ((windowUsed_iff s _).2 ⟨hbg, x, hx, hover⟩))
  · refine (renderLine_winLine _ _ _ _).trans (if_neg fun hused => ?_)
    obtain ⟨hbg, x, hx, hover⟩ := (windowUsed_iff s _).1 hused
    rcases hnone with hoff | hnone
    · exact absurd (hoff.symm.trans hbg) (by decide)
    · exact absurd ((hnone x hx).symm.trans hover) (by decide)

end Sys2Proof.Machine
end

section
/-! PROOFS. The whole machine (60_exceptions R330, R401, R402, R405): the advance changes the peripherals alone, every
step completes, and run_frame ends at one of its two exits. -/

namespace Sys2Proof.Machine

variable {s t u : State}

/-! The advance (60_exceptions R401). -/

/-- What the peripherals may do to IF: they clear no request and raise neither Serial nor Joypad (60_exceptions
R396). -/
structure RaisesOwn (x y : BitVec 5) : Prop where
  keeps : ∀ j, x.getLsbD j = true → y.getLsbD j = true
  serial : y.getLsbD 3 = x.getLsbD 3
  joypad : y.getLsbD 4 = x.getLsbD 4

theorem RaisesOwn.refl (x : BitVec 5) : RaisesOwn x x := ⟨fun _ => id, rfl, rfl⟩

theorem RaisesOwn.trans {x y z : BitVec 5} (h : RaisesOwn x y) (g : RaisesOwn y z) : RaisesOwn x z :=
  ⟨fun j hj => g.keeps j (h.keeps j hj), g.serial.trans h.serial, g.joypad.trans h.joypad⟩

theorem raisesOwn_timerTick (s : State) : RaisesOwn s.ifReg s.timerTick.ifReg := by
  have hbit (j : Nat) : (s.ifReg ||| 0b00100).getLsbD j = (s.ifReg.getLsbD j || j == 2) :=
    getLsbD_request s.ifReg .timer j
  rw [timerTick_ifReg]
  split_ifs
  · exact ⟨fun j hj => by rw [hbit, hj, Bool.true_or], (hbit 3).trans (Bool.or_false _),
      (hbit 4).trans (Bool.or_false _)⟩
  · exact .refl _

theorem raisesOwn_ppuTick (s : State) : RaisesOwn s.ifReg s.ppuTick.ifReg := by
  cases hon : s.ppu.lcdOn
  · rw [ppuTick_of_off hon]
    exact .refl _
  · have hbit := getLsbD_ppuTick_ifReg hon
    exact ⟨fun j => (hbit j).2, ((hbit 3).1 (by decide)).trans (Bool.or_false _),
      ((hbit 4).1 (by decide)).trans (Bool.or_false _)⟩

theorem raisesOwn_advance (s : State) : RaisesOwn s.ifReg s.advance.ifReg :=
  advance_keeps s (P := fun t => RaisesOwn s.ifReg t.ifReg) (fun t h => h.trans (raisesOwn_timerTick t))
    (fun t h => h.trans (raisesOwn_ppuTick t)) (.refl _)

/-- Settles O58: the timer's advance and then the PPU's; each cycle of either only raises requests of its own. -/
theorem advanceChangesPeripheralsAlone : Obligations.AdvanceChangesPeripheralsAlone := by
  intro s t
  obtain ⟨hkeeps, hserial, hjoypad⟩ := raisesOwn_advance s
  refine ⟨advance_eq s, hkeeps, hserial, hjoypad, ?_, rfl⟩
  show ((s.timerAdvance s.cycles).ppuAdvance s.cycles).timer = _
  rw [ppuAdvance_eq]

/-! The cycles a step reports (60_exceptions R402). -/

/-- A report of one to six machine cycles (30_encoding R138, 60_exceptions R402). -/
abbrev LegalReport (n : Nat) : Prop := n % 4 = 0 ∧ 4 ≤ n ∧ n ≤ 24

/-- A meaning that answers a next state with a legal report. -/
def Completes (r : Result) : Prop := ∃ t, r = .next t ∧ LegalReport t.cycles

theorem completes_finish {n : Nat} (h : LegalReport n) (s : State) : Completes (finish n s) := ⟨_, rfl, h⟩

theorem completes_finishIf {n m : Nat} (hn : LegalReport n) (hm : LegalReport m) (b : Bool) (t s : State) :
    Completes (finishIf b n m t s) := by
  cases b
  · exact completes_finish hm s
  · exact completes_finish hn t

/-- Every instruction completes with a legal report: the conditional transfers both ways, every other one by its cost
(30_encoding R138). -/
theorem completes_exec (i : Instr) (s : State) : Completes (exec i s) := by
  cases i
  case jrNZE8 | jrZE8 | jrNCE8 | jrCE8 | retNZ | retZ | retNC | retC | jpNZNN | jpZNN | jpNCNN | jpCNN
      | callNZNN | callZNN | callNCNN | callCNN =>
    exact completes_finishIf (by decide) (by decide) _ _ _
  all_goals exact completes_finish (by decide) _

@[simp] theorem endOfInstruction_cycles (s : State) : s.endOfInstruction.cycles = s.cycles := by
  rw [endOfInstruction_eq]

theorem Phase.legalReport (h : Phase s u) : LegalReport u.cycles := by
  cases h with
  | idle => exact (by decide : LegalReport idleCycles)
  | dispatch k => exact (by decide : LegalReport dispatchCycles)
  | instr i v _ _ hexec =>
    obtain ⟨t, ht, hcycles⟩ := completes_exec i (s.wake.afterFetch (opForm s.opcodeByte).length)
    rw [endOfInstruction_cycles]
    cases hexec.symm.trans ht
    exact hcycles
  | illegal =>
    rw [endOfInstruction_cycles]
    exact (by decide : LegalReport idleCycles)

/-! Every step answers a next state (60_exceptions R330). -/

theorem runInstr_next (s : State) : ∃ t, s.runInstr = .next t := by
  unfold State.runInstr
  split
  · obtain ⟨v, hv⟩ := exec_next _ _
    exact ⟨_, congrArg (mapNext State.endOfInstruction) hv⟩
  · exact ⟨_, rfl⟩

theorem runStep_next (s : State) : ∃ t, s.runStep = .next t := by
  unfold State.runStep
  split
  · exact ⟨_, rfl⟩
  · exact runInstr_next s
  · exact runInstr_next s

theorem step_next (s : State) : ∃ t, step s = .next t := by
  have hcpu : ∃ u, s.cpuPhase = .next u := by
    unfold State.cpuPhase
    split
    · exact ⟨_, rfl⟩
    · split_ifs
      · exact ⟨_, rfl⟩
      · exact runStep_next _
    · split_ifs
      · exact ⟨_, rfl⟩
      · exact runStep_next _
    · exact runStep_next s
  obtain ⟨u, hu⟩ := hcpu
  exact ⟨u.advance, congrArg (mapNext State.advance) hu⟩

/-! What no step changes: the Config, the buttons and the image (10_state R45, 60_exceptions R395). -/

/-- The same Config, the same buttons, and the same cartridge but for its controller's registers and its RAM. -/
structure SameSetup (s t : State) : Prop where
  cfg : t.cfg = s.cfg
  buttons : t.joypad.buttons = s.joypad.buttons
  cart : ∃ f : Cart → Cart, t.mem.cart = s.mem.cart.map f ∧
    ∀ k, (f k).rom = k.rom ∧ (f k).nrom = k.nrom ∧ (f k).ramSize = k.ramSize

theorem SameSetup.of_eq (hcfg : t.cfg = s.cfg) (hjoypad : t.joypad = s.joypad) (hmem : t.mem = s.mem) :
    SameSetup s t :=
  ⟨hcfg, congrArg _ hjoypad, id, by rw [hmem, Option.map_id, id], fun _ => ⟨rfl, rfl, rfl⟩⟩

theorem SameSetup.trans (h : SameSetup s t) (g : SameSetup t u) : SameSetup s u := by
  obtain ⟨hcfg, hbuttons, f, hf, hkept⟩ := h
  obtain ⟨gcfg, gbuttons, f', hf', hkept'⟩ := g
  refine ⟨gcfg.trans hcfg, gbuttons.trans hbuttons, f' ∘ f, by rw [hf', hf, Option.map_map], fun k => ?_⟩
  obtain ⟨hrom, hnrom, hsize⟩ := hkept k
  obtain ⟨hrom', hnrom', hsize'⟩ := hkept' (f k)
  exact ⟨hrom'.trans hrom, hnrom'.trans hnrom, hsize'.trans hsize⟩

/-- No I/O write presses a button (20_memory R75). -/
theorem ioWrite_buttons (s : State) (q : IoReg) (v : Byte) :
    (s.ioWrite q v).joypad.buttons = s.joypad.buttons := by
  have buttons {t u : State} {b : Buttons} (e : t = u) (h : u.joypad.buttons = b) : t.joypad.buttons = b := e ▸ h
  cases q
  case p1 => exact buttons (joypadCheck_eq _) rfl
  case lcdc => exact buttons (writeLcdc_eq s v) rfl
  case stat => exact buttons (restat_eq _) rfl
  case lyc => exact buttons (restat_eq _) rfl
  case dma =>
    obtain ⟨oam, e⟩ := dmaCopy_eq v 0 160 { s with ppu := { s.ppu with dma := v } }
    exact buttons e rfl
  all_goals rfl

theorem sameSetup_memWrite (s : State) (a : Word) (v : Byte) : SameSetup s (s.memWrite a v) := by
  refine ⟨State.memWrite_cfg s a v, ?_, memWrite_cart s a v⟩
  unfold State.memWrite
  cases regionOf a
  case io o => exact ioWrite_buttons s _ v
  all_goals rfl

theorem sameSetup_of_path (h : Path s t) : SameSetup s t :=
  h.keeps (P := SameSetup s) (fun _ _ g _ => g.trans (.of_eq rfl rfl rfl))
    (fun u a v g => g.trans (sameSetup_memWrite u a v)) (fun _ _ g => g.trans (.of_eq rfl rfl rfl)) (.of_eq rfl rfl rfl)

theorem Effect.sameSetup {i : Instr} (h : Effect s i t) : SameSetup s t := by
  cases h with
  | path hp => exact sameSetup_of_path hp
  | halt => unfold State.halt; split <;> exact .of_eq rfl rfl rfl
  | ei => unfold State.enableInterrupts; split <;> exact .of_eq rfl rfl rfl
  | stop | di | reti => exact .of_eq rfl rfl rfl

theorem sameSetup_endOfInstruction (s : State) : SameSetup s s.endOfInstruction := by
  rw [endOfInstruction_eq]
  exact .of_eq rfl rfl rfl

theorem Phase.sameSetup (h : Phase s u) : SameSetup s u := by
  cases h with
  | idle => exact .of_eq rfl rfl rfl
  | dispatch k =>
    have hcleared : SameSetup s (s.wake.acknowledge k) := .of_eq rfl rfl rfl
    exact hcleared.trans (sameSetup_of_path (dispatch_path _ k))
  | instr i v _ _ hexec =>
    have hfetched : SameSetup s (s.wake.afterFetch (opForm s.opcodeByte).length) := .of_eq rfl rfl rfl
    exact (hfetched.trans (exec_effect hexec).sameSetup).trans (sameSetup_endOfInstruction v)
  | illegal =>
    have hlocked : SameSetup s (s.wake.afterFetch 1).lockCpu := .of_eq rfl rfl rfl
    exact hlocked.trans (sameSetup_endOfInstruction _)

theorem sameSetup_advance (s : State) : SameSetup s s.advance :=
  .of_eq (State.advance_cfg s) (State.advance_joypad s) (State.advance_mem s)

/-- What a step that answers a next state reports and leaves. -/
theorem step_reports {s t : State} (h : step s = .next t) : LegalReport t.cycles ∧ SameSetup s t := by
  obtain ⟨u, hu, rfl⟩ := step_phase h
  rw [State.advance_cycles]
  exact ⟨hu.legalReport, hu.sameSetup.trans (sameSetup_advance u)⟩

/-- Settles O57: no phase of a step fails, and each makes a legal report and keeps the setup. -/
theorem everyStepCompletes : Obligations.EveryStepCompletes := by
  intro s
  obtain ⟨t, ht⟩ := step_next s
  obtain ⟨⟨hmod, hmin, hmax⟩, hcfg, hbuttons, f, hf, hkept⟩ := step_reports ht
  refine ⟨t, ht, hmod, hmin, hmax, hcfg, hbuttons, fun hk => ?_, fun k hk => ⟨f k, ?_, hkept k⟩⟩
  · rw [hf, hk, Option.map_none]
  · rw [hf, hk, Option.map_some]

/-! run_frame (60_exceptions R405, R406). -/

theorem steps_succ_of_next (h : step s = .next t) (n : Nat) : steps (n + 1) s = steps n t := by
  rw [steps, h]

theorem spent_succ_of_next (h : step s = .next t) (n : Nat) : spent (n + 1) s = t.cycles + spent n t := by
  rw [spent, h]

/-- n steps from `s`, with `acc` cycles behind them, end in `t`, the first state with the event raised or the frame's
cycles complete (60_exceptions R405). -/
structure EndsFrame (acc n : Nat) (s t : State) : Prop where
  pos : 0 < n
  run : steps n s = some t
  ends : t.ppu.vblankEvent = true ∨ 70224 ≤ acc + spent n s
  first : ∀ j u, 0 < j → j < n → steps j s = some u → u.ppu.vblankEvent = false ∧ acc + spent j s < 70224

theorem EndsFrame.one {acc : Nat} (h : step s = .next t)
    (hends : t.ppu.vblankEvent = true ∨ 70224 ≤ acc + t.cycles) : EndsFrame acc 1 s t :=
  ⟨Nat.one_pos, steps_succ_of_next h 0, by rwa [spent_succ_of_next h], fun j _ h0 h1 => by omega⟩

theorem EndsFrame.succ {acc n : Nat} (h : step s = .next t) (hevent : t.ppu.vblankEvent = false)
    (hcycles : acc + t.cycles < 70224) (g : EndsFrame (acc + t.cycles) n t u) : EndsFrame acc (n + 1) s u := by
  obtain ⟨-, hrun, hends, hfirst⟩ := g
  refine ⟨n.succ_pos, (steps_succ_of_next h n).trans hrun, ?_, fun j v h0 hj hv => ?_⟩
  · rwa [spent_succ_of_next h, ← Nat.add_assoc]
  · obtain ⟨i, rfl⟩ := Nat.exists_eq_add_one_of_ne_zero h0.ne'
    rw [steps_succ_of_next h] at hv
    rw [spent_succ_of_next h, ← Nat.add_assoc]
    rcases Nat.eq_zero_or_pos i with rfl | hi
    · cases hv
      exact ⟨hevent, hcycles⟩
    · exact hfirst i v hi (by omega) hv

theorem clearVBlankEvent_of_clear (h : s.ppu.vblankEvent = false) : s.clearVBlankEvent = s := by
  rw [State.clearVBlankEvent, ← h]

/-- The loop ends a frame, as long as its bound leaves room for it at 4 cycles a step (60_exceptions R402, R405). -/
theorem runFrameLoop_endsFrame (fuel acc : Nat) (s : State) (hacc : acc < 70224) (hfuel : 70224 ≤ acc + 4 * fuel) :
    ∃ n t, EndsFrame acc n s t ∧ runFrameLoop fuel acc s = .next t.clearVBlankEvent := by
  induction fuel generalizing acc s with
  | zero => omega
  | succ fuel ih =>
    obtain ⟨t, ht⟩ := step_next s
    obtain ⟨-, hmin, -⟩ := (step_reports ht).1
    rw [runFrameLoop, ht]
    dsimp only
    split_ifs with hevent hcycles
    · exact ⟨1, t, .one ht (.inl hevent), rfl⟩
    · refine ⟨1, t, .one ht (.inr hcycles), ?_⟩
      rw [clearVBlankEvent_of_clear (Bool.eq_false_iff.2 hevent)]
    · have hlt := Nat.lt_of_not_le hcycles
      obtain ⟨n, u, hends, hloop⟩ := ih (acc + t.cycles) t hlt (by omega)
      exact ⟨n + 1, u, hends.succ ht (Bool.eq_false_iff.2 hevent) hlt, hloop⟩

/-- Settles O59: the loop from no cycles spent, with its bound of a quarter of the frame's cycles. -/
theorem runFrameStopsAtFrame : Obligations.RunFrameStopsAtFrame := by
  intro s
  obtain ⟨n, t, ⟨hpos, hrun, hends, hfirst⟩, hloop⟩ :=
    runFrameLoop_endsFrame (frameCycles / 4) 0 s.clearVBlankEvent (by decide) (by decide)
  simp only [Nat.zero_add] at hends hfirst
  exact ⟨n, t, hpos, hrun, hloop, hends, hfirst⟩

end Sys2Proof.Machine
end

section
/-! PROOFS. The host's calls on reset, image and external RAM: `reset()`, `load_image`, and the RAM's export and import
(70_reset_and_hazards R430, R431, R440 to R443, R451, R452). -/

namespace Sys2Proof.Machine

variable {s : State} {k : Cart} {bytes : List Byte} {m : Mbc} {v : Byte} {n r : Nat}

/-! The reset of the cartridge. -/

@[simp] theorem Mbc.powerOn_powerOn (m : Mbc) : m.powerOn.powerOn = m.powerOn := by
  cases m <;> rfl

/-- The cartridge that a reset leaves: it differs from the one before in the controller's registers alone (10_state
R52). -/
theorem powerOn_cart_of_some (c : Config) (k : Cart) :
    (State.powerOn c (some k)).mem.cart = some { k with mbc := k.mbc.powerOn } := rfl

theorem powerOn_of_powerOn_cart (c : Config) (cart : Option Cart) :
    State.powerOn c (State.powerOn c cart).mem.cart = State.powerOn c cart := by
  cases cart with
  | none => rfl
  | some k =>
    rw [powerOn_cart_of_some]
    simp only [State.powerOn, Memory.powerOn, Option.map_some, Mbc.powerOn_powerOn]

/-- A second reset does nothing: the first one left a reset state. -/
theorem resetCall_resetCall (s : State) : s.resetCall.resetCall = s.resetCall :=
  powerOn_of_powerOn_cart s.cfg s.mem.cart

/-- Settles O3: the call is the reset state by definition; the cartridge is that of `powerOn_cart_of_some`. -/
theorem resetKeepsCartridge : Obligations.ResetKeepsCartridge := by
  refine ⟨if_pos (by decide), fun c s h => (construct_eq_ok h).2, fun s => ?_⟩
  refine ⟨rfl, resetCall_resetCall s, rfl, rfl, fun i => ⟨rfl, rfl, rfl, rfl, rfl, rfl, rfl⟩, fun hnone => ?_,
    fun k hk => ⟨{ k with mbc := k.mbc.powerOn }, ?_, rfl, rfl, rfl, rfl, ?_⟩⟩
  · rw [State.resetCall, hnone]
    rfl
  · rw [State.resetCall, hk, powerOn_cart_of_some]
  · refine ⟨fun h => ?_, fun en b1 b2 md h => ?_, fun en rb h => ?_, fun en rb ra h => ?_, fun en rb ra h => ?_⟩ <;>
      rw [h] <;> rfl

/-! The tables of the image header (20_memory R92, R93). -/

/-- The type bytes of R93, controller by controller. -/
theorem mbcOfType_eq_some_iff : mbcOfType v = some m ↔
    (v = 0x00 ∧ m = .noController) ∨
    (v ∈ ([0x01, 0x02, 0x03] : List Byte) ∧ m = .mbc1 false 1 0 false) ∨
    (v ∈ ([0x05, 0x06] : List Byte) ∧ m = .mbc2 false 1) ∨
    (v ∈ ([0x11, 0x12, 0x13] : List Byte) ∧ m = .mbc3 false 1 0) ∨
    (v ∈ ([0x19, 0x1A, 0x1B] : List Byte) ∧ m = .mbc5 false 1 0) := by
  constructor
  · intro h
    unfold mbcOfType at h
    split_ifs at h <;> simp_all
  · rintro (⟨rfl, rfl⟩ | ⟨hv, rfl⟩ | ⟨hv, rfl⟩ | ⟨hv, rfl⟩ | ⟨hv, rfl⟩)
    · rfl
    all_goals
      revert v
      decide

/-- R93's rows as conditions on the type byte and the ROM code. -/
theorem exists_mbcOfType_romCode_iff : (∃ m, mbcOfType v = some m ∧ r ≤ m.maxRomCode) ↔
    (v = 0x00 ∧ r ≤ 0) ∨ (v ∈ ([0x01, 0x02, 0x03] : List Byte) ∧ r ≤ 6) ∨
    (v ∈ ([0x05, 0x06] : List Byte) ∧ r ≤ 3) ∨ (v ∈ ([0x11, 0x12, 0x13] : List Byte) ∧ r ≤ 6) ∨
    (v ∈ ([0x19, 0x1A, 0x1B] : List Byte) ∧ r ≤ 8) := by
  simp only [mbcOfType_eq_some_iff, or_and_right, exists_or, and_assoc, exists_and_left, exists_eq_left,
    Mbc.maxRomCode]

theorem Mbc.maxRomCode_le (m : Mbc) : m.maxRomCode ≤ 8 := by
  cases m <;> simp [Mbc.maxRomCode]

/-- R92's table of RAM sizes, as a list. -/
theorem ramSizeOfCode_eq (v : Byte) :
    ramSizeOfCode v = ([0, 2048, 8192, 32768, 131072, 65536] : List Nat)[v.toNat]? := by
  unfold ramSizeOfCode
  rcases v.toNat with _ | _ | _ | _ | _ | _ | code <;> rfl

theorem exists_ramSizeOfCode_iff : (∃ n, ramSizeOfCode v = some n) ↔ v.toNat ≤ 5 := by
  simp only [ramSizeOfCode_eq, ← Option.isSome_iff_exists, isSome_getElem?, List.length]
  exact Nat.lt_succ_iff

/-! The image checks (70_reset_and_hazards R440). -/

/-- The cartridge of an image with controller `m` and a declared RAM size (20_memory R91, R92). -/
def imageCart (bytes : List Byte) (m : Mbc) (declared : Nat) : Cart :=
  { mbc := m, nrom := 2 * 2 ^ (bytes.getD 0x0148 0).toNat, ramSize := m.ramSize declared
    rom := Cells.ofList 0 bytes, xram := [] }

/-- An image is accepted when its length, type, ROM code and RAM code are, and then makes its `imageCart`. -/
theorem cartOfImage_eq_some_iff : cartOfImage bytes = some k ↔
    0x0150 ≤ bytes.length ∧ ∃ m n, mbcOfType (bytes.getD 0x0147 0) = some m ∧
      (bytes.getD 0x0148 0).toNat ≤ m.maxRomCode ∧ bytes.length = 0x8000 * 2 ^ (bytes.getD 0x0148 0).toNat ∧
      ramSizeOfCode (bytes.getD 0x0149 0) = some n ∧ imageCart bytes m n = k := by
  have hcode (m : Mbc) (r : Nat) : (8 < r ∨ m.maxRomCode < r) ↔ ¬ r ≤ m.maxRomCode := by
    have := m.maxRomCode_le
    omega
  simp only [cartOfImage, hcode, ← not_le (a := 0x0150), ite_not, ne_eq]
  cases mbcOfType (bytes.getD 0x0147 0) with
  | none => simp
  | some m =>
    cases ramSizeOfCode (bytes.getD 0x0149 0) with
    | none => simp
    | some n => simp [imageCart]

/-- The five checks of R440, with R93's rows written out. -/
theorem exists_cartOfImage_iff : (∃ k, cartOfImage bytes = some k) ↔
    0x0150 ≤ bytes.length ∧
      (∃ m, mbcOfType (bytes.getD 0x0147 0) = some m ∧ (bytes.getD 0x0148 0).toNat ≤ m.maxRomCode) ∧
      bytes.length = 0x8000 * 2 ^ (bytes.getD 0x0148 0).toNat ∧ (bytes.getD 0x0149 0).toNat ≤ 5 := by
  rw [← exists_ramSizeOfCode_iff]
  constructor
  · rintro ⟨k, hk⟩
    obtain ⟨hmin, m, n, hm, hr, hlen, hn, -⟩ := cartOfImage_eq_some_iff.1 hk
    exact ⟨hmin, ⟨m, hm, hr⟩, hlen, n, hn⟩
  · rintro ⟨hmin, ⟨m, hm, hr⟩, hlen, n, hn⟩
    exact ⟨_, cartOfImage_eq_some_iff.2 ⟨hmin, m, n, hm, hr, hlen, hn, rfl⟩⟩

theorem loadImage_of_some (h : cartOfImage bytes = some k) (s : State) :
    s.loadImage bytes = { state := State.powerOn s.cfg (some k), result := .ok () } := by
  rw [State.loadImage, h]

theorem loadImage_of_none (h : cartOfImage bytes = none) (s : State) :
    s.loadImage bytes = { state := s, result := .error .imageFormat } := by
  rw [State.loadImage, h]

/-- Settles O4: the image makes a cartridge exactly when it passes the checks. -/
theorem loadFailureChangesNothing : Obligations.LoadFailureChangesNothing := by
  intro s bytes ty r ok
  have hok : (∃ k, cartOfImage bytes = some k) ↔ ok := by
    rw [exists_cartOfImage_iff, exists_mbcOfType_romCode_iff]
  rw [← hok]
  refine ⟨fun ⟨k, hk⟩ => ?_, fun hnone => ?_⟩
  · rw [loadImage_of_some hk]
  · have h : cartOfImage bytes = none := Option.eq_none_iff_forall_ne_some.2 fun k hk => hnone ⟨k, hk⟩
    rw [loadImage_of_none h]
    exact ⟨rfl, rfl⟩

/-- Only an image that makes a cartridge is answered Ok. -/
theorem exists_cartOfImage_of_ok (h : (s.loadImage bytes).result = .ok ()) : ∃ k, cartOfImage bytes = some k := by
  cases hk : cartOfImage bytes with
  | some k => exact ⟨k, rfl⟩
  | none =>
    rw [loadImage_of_none hk] at h
    cases h

/-- Settles O5: the cartridge is the image's `imageCart`, with the controller and the size of the header's tables. -/
theorem loadSuccessInstallsImage : Obligations.LoadSuccessInstallsImage := by
  intro s bytes hload
  obtain ⟨k, hk⟩ := exists_cartOfImage_of_ok hload
  obtain ⟨-, m, n, hm, -, -, hn, rfl⟩ := cartOfImage_eq_some_iff.1 hk
  refine ⟨imageCart bytes m n, by rw [loadImage_of_some hk], fun i => Cells.read_ofList bytes 0 i (Nat.zero_le i), rfl,
    fun i => rfl, ?_⟩
  intro ty sizes declared
  have hsize : declared = n := by
    rw [ramSizeOfCode_eq] at hn
    exact List.getD_eq_getElem?_getD.trans (by rw [hn]; rfl)
  have hmbc {m' : Mbc} (h : mbcOfType ty = some m') :
      (imageCart bytes m n).mbc = m' ∧ (imageCart bytes m n).ramSize = m'.ramSize declared := by
    obtain rfl := Option.some.inj (hm.symm.trans h)
    rw [hsize]
    exact ⟨rfl, rfl⟩
  exact ⟨fun h => hmbc (mbcOfType_eq_some_iff.2 (.inl ⟨h, rfl⟩)),
    fun h => hmbc (mbcOfType_eq_some_iff.2 (.inr (.inl ⟨h, rfl⟩))),
    fun h => hmbc (mbcOfType_eq_some_iff.2 (.inr (.inr (.inl ⟨h, rfl⟩)))),
    fun h => hmbc (mbcOfType_eq_some_iff.2 (.inr (.inr (.inr (.inl ⟨h, rfl⟩))))),
    fun h => hmbc (mbcOfType_eq_some_iff.2 (.inr (.inr (.inr (.inr ⟨h, rfl⟩)))))⟩

/-! Export and import of the external RAM (70_reset_and_hazards R451, R452). -/

/-- A value of an export is that of some cell. -/
theorem exists_read_of_mem_toList {l : Cells 8} (h : v ∈ l.toList 0 n) : ∃ i, l.read i = v := by
  obtain ⟨i, hi⟩ := List.mem_iff_getElem?.1 h
  have hlt : i < n := by
    rw [← l.toList_length 0 n]
    exact (List.getElem?_eq_some_iff.1 hi).1
  rw [l.toList_getElem? 0 n i hlt, Nat.zero_add] at hi
  exact ⟨i, Option.some.inj hi⟩

/-- The low nibble of a nibble is itself. -/
theorem and_0F_eq_of_lt (h : v.toNat < 16) : v &&& 0x0F = v := by
  apply BitVec.eq_of_toNat_eq
  rw [BitVec.toNat_and]
  exact (Nat.and_two_pow_sub_one_eq_mod _ 4).trans (Nat.mod_eq_of_lt h)

/-- A canonical cartridge's cells hold only what its controller stores (20_memory R96). -/
theorem Cart.ramStoreValue_read (h : k.wf = true) (i : Nat) :
    Cart.ramStoreValue k.mbc (k.xram.read i) = k.xram.read i := by
  obtain ⟨-, -, hnibbles⟩ := (Cart.wf_iff k).1 h
  cases hm : k.mbc with
  | mbc2 en rb => exact and_0F_eq_of_lt (Cells.read_lt (hnibbles en rb hm).2 i)
  | _ => rfl

theorem exportExternalRam_of_none (h : s.mem.cart = none) : s.exportExternalRam = [] := by
  rw [State.exportExternalRam, h]

theorem exportExternalRam_of_some (h : s.mem.cart = some k) : s.exportExternalRam = k.xram.toList 0 k.ramSize := by
  rw [State.exportExternalRam, h]

theorem length_exportExternalRam (h : s.mem.cart = some k) : s.exportExternalRam.length = k.ramSize := by
  rw [exportExternalRam_of_some h, Cells.toList_length]

/-- The cartridge after an import: the bytes as its controller stores them. -/
def Cart.withRam (k : Cart) (bytes : List Byte) : Cart :=
  { k with xram := Cells.ofList 0 (bytes.map (Cart.ramStoreValue k.mbc)) }

theorem importExternalRam_of_none (h : s.mem.cart = none) :
    s.importExternalRam bytes = { state := s, result := if bytes.length = 0 then .ok () else .error .imageFormat } := by
  rw [State.importExternalRam, h]

/-- An import of RAM_SIZE bytes replaces the cartridge by its `withRam`. -/
theorem importExternalRam_of_length (h : s.mem.cart = some k) (hl : bytes.length = k.ramSize) :
    s.importExternalRam bytes =
      { state := { s with mem := { s.mem with cart := some (k.withRam bytes) } }, result := .ok () } := by
  rw [State.importExternalRam, h]
  simp only [if_pos hl, State.mapCart, h, Option.map_some, Cart.withRam]

/-- An import of any other length than the export's is refused. -/
theorem importExternalRam_of_length_ne (h : bytes.length ≠ s.exportExternalRam.length) :
    s.importExternalRam bytes = { state := s, result := .error .imageFormat } := by
  cases hk : s.mem.cart with
  | none =>
    rw [exportExternalRam_of_none hk] at h
    rw [importExternalRam_of_none hk]
    exact congrArg (Reply.mk s) (if_neg h)
  | some k =>
    rw [length_exportExternalRam hk] at h
    rw [State.importExternalRam, hk]
    exact if_neg h

/-- The RAM after an import exports what its controller stored. -/
theorem Cart.toList_withRam (h : bytes.length = k.ramSize) :
    (k.withRam bytes).xram.toList 0 (k.withRam bytes).ramSize = bytes.map (Cart.ramStoreValue k.mbc) := by
  have hl : (k.withRam bytes).ramSize = (bytes.map (Cart.ramStoreValue k.mbc)).length := by
    rw [List.length_map, h]
    rfl
  rw [hl]
  exact Cells.toList_ofList _

theorem Cart.read_withRam {i : Nat} (h : bytes[i]? = some v) :
    (k.withRam bytes).xram.read i = Cart.ramStoreValue k.mbc v := by
  refine (Cells.read_ofList _ 0 i (Nat.zero_le i)).trans ?_
  rw [List.getD_eq_getElem?_getD, Nat.sub_zero, List.getElem?_map, h]
  rfl

/-- A canonical cartridge is its own with the RAM it exports. -/
theorem Cart.withRam_toList (h : k.wf = true) : k.withRam (k.xram.toList 0 k.ramSize) = k := by
  have hstore : (k.xram.toList 0 k.ramSize).map (Cart.ramStoreValue k.mbc) = k.xram.toList 0 k.ramSize := by
    refine (List.map_congr_left fun v hv => ?_).trans (List.map_id _)
    obtain ⟨i, rfl⟩ := exists_read_of_mem_toList hv
    exact Cart.ramStoreValue_read h i
  have hbounds : k.xram.wfIn 0 (0 + k.ramSize) = true := by
    rw [Nat.zero_add]
    exact ((Cart.wf_iff k).1 h).2.1
  rw [Cart.withRam, hstore, Cells.ofList_toList k.xram 0 k.ramSize hbounds]

/-- With canonical memory an export imports back to the same state. -/
theorem importExternalRam_exportExternalRam (h : s.mem.wf = true) :
    (s.importExternalRam s.exportExternalRam).state = s := by
  cases hk : s.mem.cart with
  | none => rw [importExternalRam_of_none hk]
  | some k =>
    have hwf : k.wf = true := ((Memory.wf_iff _).1 h).1 k hk
    rw [importExternalRam_of_length hk (length_exportExternalRam hk), exportExternalRam_of_some hk,
      Cart.withRam_toList hwf, ← hk]

/-- An import as long as the export is accepted. -/
theorem importExternalRam_ok (h : bytes.length = s.exportExternalRam.length) :
    (s.importExternalRam bytes).result = .ok () := by
  cases hk : s.mem.cart with
  | none =>
    rw [exportExternalRam_of_none hk] at h
    rw [importExternalRam_of_none hk]
    exact if_pos h
  | some k => rw [importExternalRam_of_length hk (h.trans (length_exportExternalRam hk))]

/-- Settles O60: an import makes the RAM its `withRam`, whose cells and export are the stored bytes. -/
theorem externalRamRoundTrip : Obligations.ExternalRamRoundTrip := by
  intro s
  refine ⟨exportExternalRam_of_none, fun k hk => ?_, importExternalRam_exportExternalRam, importExternalRam_ok rfl,
    fun bytes hl => ?_⟩
  · intro kept
    have hkept : kept = Cart.ramStoreValue k.mbc := rfl
    refine ⟨length_exportExternalRam hk, fun i hi => ?_, fun bytes hl => ?_⟩
    · rw [exportExternalRam_of_some hk, Cells.toList_getElem? _ _ _ _ hi, Nat.zero_add]
    · intro reply
      have hreply : reply = _ := importExternalRam_of_length hk hl
      rw [hreply, hkept]
      exact ⟨rfl, Cart.toList_withRam hl, k.withRam bytes, rfl, rfl, fun i b hb => Cart.read_withRam hb⟩
  · rw [importExternalRam_of_length_ne hl]
    exact ⟨rfl, rfl⟩

end Sys2Proof.Machine
end
